-- ==== Sys2Proof/Word.lean ====
section
/-! DEFINITION. The word types of the block and the constants of rule R11 (00_scope.md rules R9 to R12). -/

namespace Sys2Proof

/-- One byte of the tap RAM's image (20_memory.md rule R61). -/
abbrev Byte := BitVec 8

/-- The `u32` of 00_scope.md rule R9: register bus data, rates, factors and lengths. -/
abbrev U32 := BitVec 32

/-- The `u64` of 00_scope.md rule R9: IN_COUNT, OUT_COUNT and ERR_INDEX. -/
abbrev U64 := BitVec 64

/-- The `f64` of 00_scope.md rule R10: an IEEE 754 binary64 value held as its 64-bit pattern. -/
abbrev F64 := BitVec 64

/-- A complex sample `(z.re, z.im)`: the in-phase and the quadrature part (00_scope.md rule R12). -/
structure Cplx where
  re : F64
  im : F64
deriving DecidableEq, Repr

/-- ZERO = +0.0 (R11). -/
def zero64 : F64 := 0x0000000000000000#64

/-- ONE = 1.0 (R11). -/
def one64 : F64 := 0x3FF0000000000000#64

/-- PI64, the binary64 value nearest π (R11). -/
def pi64 : F64 := 0x400921FB54442D18#64

/-- TWO_PI64 = 2·PI64 exactly (R11). -/
def twoPi64 : F64 := 0x401921FB54442D18#64

/-- HALF_PI64 = PI64/2 exactly (R11). -/
def halfPi64 : F64 := 0x3FF921FB54442D18#64

/-- CZERO = (ZERO, ZERO) (R12). -/
def czero : Cplx := ⟨zero64, zero64⟩

end Sys2Proof
end

