-- ==== Sys2Proof/Config.lean ====
section
/-! DEFINITION. The parameters of 00_scope.md rule R8 and the values the spec leaves open.
A value marked free is an opaque constant: nothing can be proved of which value it is. -/

namespace Sys2Proof.Config

/-- The parameters of a build that have values of their own (R8, U7). Every operation takes them as an argument, with
the state it works on (R54). -/
structure Build where
  /-- TAP_DEPTH, the entries of the tap RAM. -/
  tapDepth : Nat
  /-- OUT_FIFO_DEPTH, the entries of the output queue. -/
  outFifoDepth : Nat
deriving DecidableEq, Repr

/-- The parameters lie in the legal ranges of R8's table. -/
def Build.legal (b : Build) : Bool :=
  decide (1 ≤ b.tapDepth ∧ b.tapDepth ≤ 65535 ∧ 1 ≤ b.outFifoDepth ∧ b.outFifoDepth ≤ 255)

/-- This spec's build (R8). -/
def specBuild : Build where
  tapDepth := 1024
  outFifoDepth := 16

/-- WINDOW_BASE, the platform's base address of the register window (R68, U5). Free: no rule of the block reads
it, since a bus access carries only its 12-bit offset. Log entry 9. -/
opaque windowBase : Nat

/-- The address a register of the window has in the host's address space (R68). -/
def hostAddress (offset : BitVec 12) : Nat := windowBase + offset.toNat

/-- The byte of the tap RAM's image that nothing has written since power-up: fixed but arbitrary, chosen once at
power-up (R52, U1, D43). Free. Log entry 4. -/
opaque powerUpByte : Nat → Byte

/-- What NCO_COS gives at a positive argument where rule R203 does not fix the bits (U4). Free. Log entry 5. -/
opaque ncoCosFree : F64 → F64

/-- What NCO_SIN gives at a positive argument where rule R203 does not fix the bits (U4). Free. Log entry 5. -/
opaque ncoSinFree : F64 → F64

/-- What DEM_ATAN2 gives for a positive first argument where rule R253 does not fix the bits (U4). Free. Log entry 5. -/
opaque demAtan2Free : F64 → F64 → F64

end Sys2Proof.Config
end

