-- ==== Sys2Proof/Syntax.lean ====
section
/-! DEFINITION. The transactions of the block: one constructor of `Instr` per row of the opcode table
(30_encoding.md), and the raw transactions the host offers on the block's interfaces (R80). -/

namespace Sys2Proof

/-- A decoded command word (R86, R88). -/
inductive Command where
  | nop
  | start
  | eos
  | abort
  | stageReset (smask : BitVec 5)
  | illegal (word : U32)
deriving DecidableEq, Repr

/-- A transaction as the table decodes it. `addr` is ADDR[11:0] of a bus access, `wdata` its WDATA, `smask` the
stage mask of R87, `i` and `q` the two parts of an input beat (R80). -/
inductive Instr where
  /-- WR_BADSTRB_0000: KEY match 0x10000, mask 0x1F000 (R82). -/
  | wrBadstrb0000 (addr : BitVec 12) (wdata : U32)
  /-- WR_BADSTRB_0001: KEY match 0x11000, mask 0x1F000 (R82). -/
  | wrBadstrb0001 (addr : BitVec 12) (wdata : U32)
  /-- WR_BADSTRB_0010: KEY match 0x12000, mask 0x1F000 (R82). -/
  | wrBadstrb0010 (addr : BitVec 12) (wdata : U32)
  /-- WR_BADSTRB_0011: KEY match 0x13000, mask 0x1F000 (R82). -/
  | wrBadstrb0011 (addr : BitVec 12) (wdata : U32)
  /-- WR_BADSTRB_0100: KEY match 0x14000, mask 0x1F000 (R82). -/
  | wrBadstrb0100 (addr : BitVec 12) (wdata : U32)
  /-- WR_BADSTRB_0101: KEY match 0x15000, mask 0x1F000 (R82). -/
  | wrBadstrb0101 (addr : BitVec 12) (wdata : U32)
  /-- WR_BADSTRB_0110: KEY match 0x16000, mask 0x1F000 (R82). -/
  | wrBadstrb0110 (addr : BitVec 12) (wdata : U32)
  /-- WR_BADSTRB_0111: KEY match 0x17000, mask 0x1F000 (R82). -/
  | wrBadstrb0111 (addr : BitVec 12) (wdata : U32)
  /-- WR_BADSTRB_1000: KEY match 0x18000, mask 0x1F000 (R82). -/
  | wrBadstrb1000 (addr : BitVec 12) (wdata : U32)
  /-- WR_BADSTRB_1001: KEY match 0x19000, mask 0x1F000 (R82). -/
  | wrBadstrb1001 (addr : BitVec 12) (wdata : U32)
  /-- WR_BADSTRB_1010: KEY match 0x1A000, mask 0x1F000 (R82). -/
  | wrBadstrb1010 (addr : BitVec 12) (wdata : U32)
  /-- WR_BADSTRB_1011: KEY match 0x1B000, mask 0x1F000 (R82). -/
  | wrBadstrb1011 (addr : BitVec 12) (wdata : U32)
  /-- WR_BADSTRB_1100: KEY match 0x1C000, mask 0x1F000 (R82). -/
  | wrBadstrb1100 (addr : BitVec 12) (wdata : U32)
  /-- WR_BADSTRB_1101: KEY match 0x1D000, mask 0x1F000 (R82). -/
  | wrBadstrb1101 (addr : BitVec 12) (wdata : U32)
  /-- WR_BADSTRB_1110: KEY match 0x1E000, mask 0x1F000 (R82). -/
  | wrBadstrb1110 (addr : BitVec 12) (wdata : U32)
  /-- RD_MISALIGNED_1: KEY match 0x0F001, mask 0x1F003 (R83). -/
  | rdMisaligned1 (addr : BitVec 12)
  /-- WR_MISALIGNED_1: KEY match 0x1F001, mask 0x1F003 (R83). -/
  | wrMisaligned1 (addr : BitVec 12) (wdata : U32)
  /-- RD_MISALIGNED_2: KEY match 0x0F002, mask 0x1F003 (R83). -/
  | rdMisaligned2 (addr : BitVec 12)
  /-- WR_MISALIGNED_2: KEY match 0x1F002, mask 0x1F003 (R83). -/
  | wrMisaligned2 (addr : BitVec 12) (wdata : U32)
  /-- RD_MISALIGNED_3: KEY match 0x0F003, mask 0x1F003 (R83). -/
  | rdMisaligned3 (addr : BitVec 12)
  /-- WR_MISALIGNED_3: KEY match 0x1F003, mask 0x1F003 (R83). -/
  | wrMisaligned3 (addr : BitVec 12) (wdata : U32)
  /-- RD_ID: KEY match 0x0F000, mask 0x1FFFF (R102). -/
  | rdId
  /-- WR_RO_ID: KEY match 0x1F000, mask 0x1FFFF (R101). -/
  | wrRoId (wdata : U32)
  /-- RD_PARAMS: KEY match 0x0F004, mask 0x1FFFF (R103). -/
  | rdParams
  /-- WR_RO_PARAMS: KEY match 0x1F004, mask 0x1FFFF (R101). -/
  | wrRoParams (wdata : U32)
  /-- RD_CMD: KEY match 0x0F008, mask 0x1FFFF (R104). -/
  | rdCmd
  /-- WR_CMD: KEY match 0x1F008, mask 0x1FFFF (R105). -/
  | wrCmd (wdata : U32)
  /-- RD_STATUS: KEY match 0x0F00C, mask 0x1FFFF (R106). -/
  | rdStatus
  /-- WR_RO_STATUS: KEY match 0x1F00C, mask 0x1FFFF (R101). -/
  | wrRoStatus (wdata : U32)
  /-- RD_ERR_CAUSE: KEY match 0x0F010, mask 0x1FFFF (R107). -/
  | rdErrCause
  /-- WR_RO_ERR_CAUSE: KEY match 0x1F010, mask 0x1FFFF (R101). -/
  | wrRoErrCause (wdata : U32)
  /-- RD_ERR_INDEX_LO: KEY match 0x0F018, mask 0x1FFFF (R108). -/
  | rdErrIndexLo
  /-- WR_RO_ERR_INDEX_LO: KEY match 0x1F018, mask 0x1FFFF (R101). -/
  | wrRoErrIndexLo (wdata : U32)
  /-- RD_ERR_INDEX_HI: KEY match 0x0F01C, mask 0x1FFFF (R109). -/
  | rdErrIndexHi
  /-- WR_RO_ERR_INDEX_HI: KEY match 0x1F01C, mask 0x1FFFF (R101). -/
  | wrRoErrIndexHi (wdata : U32)
  /-- RD_IRQ_STATUS: KEY match 0x0F020, mask 0x1FFFF (R111). -/
  | rdIrqStatus
  /-- WR_IRQ_STATUS: KEY match 0x1F020, mask 0x1FFFF (R110). -/
  | wrIrqStatus (wdata : U32)
  /-- RD_IRQ_ENABLE: KEY match 0x0F024, mask 0x1FFFF (R112). -/
  | rdIrqEnable
  /-- WR_IRQ_ENABLE: KEY match 0x1F024, mask 0x1FFFF (R113). -/
  | wrIrqEnable (wdata : U32)
  /-- RD_SAMPLE_RATE: KEY match 0x0F028, mask 0x1FFFF (R131). -/
  | rdSampleRate
  /-- WR_SAMPLE_RATE: KEY match 0x1F028, mask 0x1FFFF (R132). -/
  | wrSampleRate (wdata : U32)
  /-- RD_DECIM_M: KEY match 0x0F02C, mask 0x1FFFF (R133). -/
  | rdDecimM
  /-- WR_DECIM_M: KEY match 0x1F02C, mask 0x1FFFF (R134). -/
  | wrDecimM (wdata : U32)
  /-- RD_DC_ALPHA_LO: KEY match 0x0F030, mask 0x1FFFF (R135). -/
  | rdDcAlphaLo
  /-- WR_DC_ALPHA_LO: KEY match 0x1F030, mask 0x1FFFF (R136). -/
  | wrDcAlphaLo (wdata : U32)
  /-- RD_DC_ALPHA_HI: KEY match 0x0F034, mask 0x1FFFF (R137). -/
  | rdDcAlphaHi
  /-- WR_DC_ALPHA_HI: KEY match 0x1F034, mask 0x1FFFF (R138). -/
  | wrDcAlphaHi (wdata : U32)
  /-- RD_MIX_FREQ_LO: KEY match 0x0F038, mask 0x1FFFF (R139). -/
  | rdMixFreqLo
  /-- WR_MIX_FREQ_LO: KEY match 0x1F038, mask 0x1FFFF (R140). -/
  | wrMixFreqLo (wdata : U32)
  /-- RD_MIX_FREQ_HI: KEY match 0x0F03C, mask 0x1FFFF (R141). -/
  | rdMixFreqHi
  /-- WR_MIX_FREQ_HI: KEY match 0x1F03C, mask 0x1FFFF (R142). -/
  | wrMixFreqHi (wdata : U32)
  /-- RD_FIR_NTAPS: KEY match 0x0F040, mask 0x1FFFF (R143). -/
  | rdFirNtaps
  /-- WR_FIR_NTAPS: KEY match 0x1F040, mask 0x1FFFF (R144). -/
  | wrFirNtaps (wdata : U32)
  /-- RD_TAP_ADDR: KEY match 0x0F044, mask 0x1FFFF (R116). -/
  | rdTapAddr
  /-- WR_TAP_ADDR: KEY match 0x1F044, mask 0x1FFFF (R117). -/
  | wrTapAddr (wdata : U32)
  /-- RD_TAP_DATA_LO: KEY match 0x0F048, mask 0x1FFFF (R119). -/
  | rdTapDataLo
  /-- WR_TAP_DATA_LO: KEY match 0x1F048, mask 0x1FFFF (R118). -/
  | wrTapDataLo (wdata : U32)
  /-- RD_TAP_DATA_HI: KEY match 0x0F04C, mask 0x1FFFF (R121). -/
  | rdTapDataHi
  /-- WR_TAP_DATA_HI: KEY match 0x1F04C, mask 0x1FFFF (R120). -/
  | wrTapDataHi (wdata : U32)
  /-- RD_NCO_INC_LO: KEY match 0x0F050, mask 0x1FFFF (R114). -/
  | rdNcoIncLo
  /-- WR_RO_NCO_INC_LO: KEY match 0x1F050, mask 0x1FFFF (R101). -/
  | wrRoNcoIncLo (wdata : U32)
  /-- RD_NCO_INC_HI: KEY match 0x0F054, mask 0x1FFFF (R115). -/
  | rdNcoIncHi
  /-- WR_RO_NCO_INC_HI: KEY match 0x1F054, mask 0x1FFFF (R101). -/
  | wrRoNcoIncHi (wdata : U32)
  /-- RD_NCO_PHASE_LO: KEY match 0x0F058, mask 0x1FFFF (R122). -/
  | rdNcoPhaseLo
  /-- WR_RO_NCO_PHASE_LO: KEY match 0x1F058, mask 0x1FFFF (R101). -/
  | wrRoNcoPhaseLo (wdata : U32)
  /-- RD_NCO_PHASE_HI: KEY match 0x0F05C, mask 0x1FFFF (R123). -/
  | rdNcoPhaseHi
  /-- WR_RO_NCO_PHASE_HI: KEY match 0x1F05C, mask 0x1FFFF (R101). -/
  | wrRoNcoPhaseHi (wdata : U32)
  /-- RD_IN_COUNT_LO: KEY match 0x0F060, mask 0x1FFFF (R124). -/
  | rdInCountLo
  /-- WR_RO_IN_COUNT_LO: KEY match 0x1F060, mask 0x1FFFF (R101). -/
  | wrRoInCountLo (wdata : U32)
  /-- RD_IN_COUNT_HI: KEY match 0x0F064, mask 0x1FFFF (R125). -/
  | rdInCountHi
  /-- WR_RO_IN_COUNT_HI: KEY match 0x1F064, mask 0x1FFFF (R101). -/
  | wrRoInCountHi (wdata : U32)
  /-- RD_OUT_COUNT_LO: KEY match 0x0F068, mask 0x1FFFF (R126). -/
  | rdOutCountLo
  /-- WR_RO_OUT_COUNT_LO: KEY match 0x1F068, mask 0x1FFFF (R101). -/
  | wrRoOutCountLo (wdata : U32)
  /-- RD_OUT_COUNT_HI: KEY match 0x0F06C, mask 0x1FFFF (R127). -/
  | rdOutCountHi
  /-- WR_RO_OUT_COUNT_HI: KEY match 0x1F06C, mask 0x1FFFF (R101). -/
  | wrRoOutCountHi (wdata : U32)
  /-- RD_OUT_RATE: KEY match 0x0F070, mask 0x1FFFF (R128). -/
  | rdOutRate
  /-- WR_RO_OUT_RATE: KEY match 0x1F070, mask 0x1FFFF (R101). -/
  | wrRoOutRate (wdata : U32)
  /-- RD_FIR_GAIN_LO: KEY match 0x0F078, mask 0x1FFFF (R129). -/
  | rdFirGainLo
  /-- WR_RO_FIR_GAIN_LO: KEY match 0x1F078, mask 0x1FFFF (R101). -/
  | wrRoFirGainLo (wdata : U32)
  /-- RD_FIR_GAIN_HI: KEY match 0x0F07C, mask 0x1FFFF (R130). -/
  | rdFirGainHi
  /-- WR_RO_FIR_GAIN_HI: KEY match 0x1F07C, mask 0x1FFFF (R101). -/
  | wrRoFirGainHi (wdata : U32)
  /-- RD_UNMAPPED_014: KEY match 0x0F014, mask 0x1FFFF (R84). -/
  | rdUnmapped014
  /-- WR_UNMAPPED_014: KEY match 0x1F014, mask 0x1FFFF (R84). -/
  | wrUnmapped014 (wdata : U32)
  /-- RD_UNMAPPED_074: KEY match 0x0F074, mask 0x1FFFF (R84). -/
  | rdUnmapped074
  /-- WR_UNMAPPED_074: KEY match 0x1F074, mask 0x1FFFF (R84). -/
  | wrUnmapped074 (wdata : U32)
  /-- RD_UNMAPPED_HI_B7: KEY match 0x0F080, mask 0x1FF83 (R84). -/
  | rdUnmappedHiB7 (addr : BitVec 12)
  /-- WR_UNMAPPED_HI_B7: KEY match 0x1F080, mask 0x1FF83 (R84). -/
  | wrUnmappedHiB7 (addr : BitVec 12) (wdata : U32)
  /-- RD_UNMAPPED_HI_B8: KEY match 0x0F100, mask 0x1FF03 (R84). -/
  | rdUnmappedHiB8 (addr : BitVec 12)
  /-- WR_UNMAPPED_HI_B8: KEY match 0x1F100, mask 0x1FF03 (R84). -/
  | wrUnmappedHiB8 (addr : BitVec 12) (wdata : U32)
  /-- RD_UNMAPPED_HI_B9: KEY match 0x0F200, mask 0x1FE03 (R84). -/
  | rdUnmappedHiB9 (addr : BitVec 12)
  /-- WR_UNMAPPED_HI_B9: KEY match 0x1F200, mask 0x1FE03 (R84). -/
  | wrUnmappedHiB9 (addr : BitVec 12) (wdata : U32)
  /-- RD_UNMAPPED_HI_B10: KEY match 0x0F400, mask 0x1FC03 (R84). -/
  | rdUnmappedHiB10 (addr : BitVec 12)
  /-- WR_UNMAPPED_HI_B10: KEY match 0x1F400, mask 0x1FC03 (R84). -/
  | wrUnmappedHiB10 (addr : BitVec 12) (wdata : U32)
  /-- RD_UNMAPPED_HI_B11: KEY match 0x0F800, mask 0x1F803 (R84). -/
  | rdUnmappedHiB11 (addr : BitVec 12)
  /-- WR_UNMAPPED_HI_B11: KEY match 0x1F800, mask 0x1F803 (R84). -/
  | wrUnmappedHiB11 (addr : BitVec 12) (wdata : U32)
  /-- NOP: word match 0x00000000, mask 0xFFFFFFFF (R150). -/
  | nop
  /-- START: word match 0x00000001, mask 0xFFFFFFFF (R152). -/
  | start
  /-- EOS: word match 0x00000002, mask 0xFFFFFFFF (R158). -/
  | eos
  /-- ABORT: word match 0x00000003, mask 0xFFFFFFFF (R160). -/
  | abort
  /-- STAGE_RESET: word match 0x00000004, mask 0xFFFFE0FF (R162). -/
  | stageReset (smask : BitVec 5)
  /-- CMD_ILLEGAL: word match 0x00000000, mask 0x00000000 (R88). -/
  | cmdIllegal (word : U32)
  /-- IN_BEAT: port match 0x0, mask 0x0 (R170). -/
  | inBeat (i : F64) (q : F64)
  /-- OUT_BEAT: port match 0x0, mask 0x0 (R176). -/
  | outBeat
deriving DecidableEq, Repr

/-- A transaction as it arrives, undecoded, on the interface it arrives on (R80: a decoder tells the formats apart
by the interface, never by bits). -/
inductive Txn where
  /-- A bus access: WE, ADDR, STRB and WDATA. A read ignores STRB and WDATA (R63). -/
  | bus (we : Bool) (addr : BitVec 12) (strb : BitVec 4) (wdata : U32)
  /-- A full-strobe write of CMD carrying this command word, in the table's CMD format (R86). Log entry 2. -/
  | command (word : U32)
  /-- An input beat: DATA[127:0] (R80). -/
  | input (data : BitVec 128)
  /-- An output beat: no request fields (R80). -/
  | output
deriving DecidableEq, Repr

/-- What the host does to the block: it offers a transaction, or raises `rst` (R6, R330). -/
inductive Event where
  | txn (t : Txn)
  | reset
deriving DecidableEq, Repr

/-- The mnemonic of the row a transaction is. -/
def Instr.mnemonic : Instr → String
  | .wrBadstrb0000 _ _ => "WR_BADSTRB_0000"
  | .wrBadstrb0001 _ _ => "WR_BADSTRB_0001"
  | .wrBadstrb0010 _ _ => "WR_BADSTRB_0010"
  | .wrBadstrb0011 _ _ => "WR_BADSTRB_0011"
  | .wrBadstrb0100 _ _ => "WR_BADSTRB_0100"
  | .wrBadstrb0101 _ _ => "WR_BADSTRB_0101"
  | .wrBadstrb0110 _ _ => "WR_BADSTRB_0110"
  | .wrBadstrb0111 _ _ => "WR_BADSTRB_0111"
  | .wrBadstrb1000 _ _ => "WR_BADSTRB_1000"
  | .wrBadstrb1001 _ _ => "WR_BADSTRB_1001"
  | .wrBadstrb1010 _ _ => "WR_BADSTRB_1010"
  | .wrBadstrb1011 _ _ => "WR_BADSTRB_1011"
  | .wrBadstrb1100 _ _ => "WR_BADSTRB_1100"
  | .wrBadstrb1101 _ _ => "WR_BADSTRB_1101"
  | .wrBadstrb1110 _ _ => "WR_BADSTRB_1110"
  | .rdMisaligned1 _ => "RD_MISALIGNED_1"
  | .wrMisaligned1 _ _ => "WR_MISALIGNED_1"
  | .rdMisaligned2 _ => "RD_MISALIGNED_2"
  | .wrMisaligned2 _ _ => "WR_MISALIGNED_2"
  | .rdMisaligned3 _ => "RD_MISALIGNED_3"
  | .wrMisaligned3 _ _ => "WR_MISALIGNED_3"
  | .rdId => "RD_ID"
  | .wrRoId _ => "WR_RO_ID"
  | .rdParams => "RD_PARAMS"
  | .wrRoParams _ => "WR_RO_PARAMS"
  | .rdCmd => "RD_CMD"
  | .wrCmd _ => "WR_CMD"
  | .rdStatus => "RD_STATUS"
  | .wrRoStatus _ => "WR_RO_STATUS"
  | .rdErrCause => "RD_ERR_CAUSE"
  | .wrRoErrCause _ => "WR_RO_ERR_CAUSE"
  | .rdErrIndexLo => "RD_ERR_INDEX_LO"
  | .wrRoErrIndexLo _ => "WR_RO_ERR_INDEX_LO"
  | .rdErrIndexHi => "RD_ERR_INDEX_HI"
  | .wrRoErrIndexHi _ => "WR_RO_ERR_INDEX_HI"
  | .rdIrqStatus => "RD_IRQ_STATUS"
  | .wrIrqStatus _ => "WR_IRQ_STATUS"
  | .rdIrqEnable => "RD_IRQ_ENABLE"
  | .wrIrqEnable _ => "WR_IRQ_ENABLE"
  | .rdSampleRate => "RD_SAMPLE_RATE"
  | .wrSampleRate _ => "WR_SAMPLE_RATE"
  | .rdDecimM => "RD_DECIM_M"
  | .wrDecimM _ => "WR_DECIM_M"
  | .rdDcAlphaLo => "RD_DC_ALPHA_LO"
  | .wrDcAlphaLo _ => "WR_DC_ALPHA_LO"
  | .rdDcAlphaHi => "RD_DC_ALPHA_HI"
  | .wrDcAlphaHi _ => "WR_DC_ALPHA_HI"
  | .rdMixFreqLo => "RD_MIX_FREQ_LO"
  | .wrMixFreqLo _ => "WR_MIX_FREQ_LO"
  | .rdMixFreqHi => "RD_MIX_FREQ_HI"
  | .wrMixFreqHi _ => "WR_MIX_FREQ_HI"
  | .rdFirNtaps => "RD_FIR_NTAPS"
  | .wrFirNtaps _ => "WR_FIR_NTAPS"
  | .rdTapAddr => "RD_TAP_ADDR"
  | .wrTapAddr _ => "WR_TAP_ADDR"
  | .rdTapDataLo => "RD_TAP_DATA_LO"
  | .wrTapDataLo _ => "WR_TAP_DATA_LO"
  | .rdTapDataHi => "RD_TAP_DATA_HI"
  | .wrTapDataHi _ => "WR_TAP_DATA_HI"
  | .rdNcoIncLo => "RD_NCO_INC_LO"
  | .wrRoNcoIncLo _ => "WR_RO_NCO_INC_LO"
  | .rdNcoIncHi => "RD_NCO_INC_HI"
  | .wrRoNcoIncHi _ => "WR_RO_NCO_INC_HI"
  | .rdNcoPhaseLo => "RD_NCO_PHASE_LO"
  | .wrRoNcoPhaseLo _ => "WR_RO_NCO_PHASE_LO"
  | .rdNcoPhaseHi => "RD_NCO_PHASE_HI"
  | .wrRoNcoPhaseHi _ => "WR_RO_NCO_PHASE_HI"
  | .rdInCountLo => "RD_IN_COUNT_LO"
  | .wrRoInCountLo _ => "WR_RO_IN_COUNT_LO"
  | .rdInCountHi => "RD_IN_COUNT_HI"
  | .wrRoInCountHi _ => "WR_RO_IN_COUNT_HI"
  | .rdOutCountLo => "RD_OUT_COUNT_LO"
  | .wrRoOutCountLo _ => "WR_RO_OUT_COUNT_LO"
  | .rdOutCountHi => "RD_OUT_COUNT_HI"
  | .wrRoOutCountHi _ => "WR_RO_OUT_COUNT_HI"
  | .rdOutRate => "RD_OUT_RATE"
  | .wrRoOutRate _ => "WR_RO_OUT_RATE"
  | .rdFirGainLo => "RD_FIR_GAIN_LO"
  | .wrRoFirGainLo _ => "WR_RO_FIR_GAIN_LO"
  | .rdFirGainHi => "RD_FIR_GAIN_HI"
  | .wrRoFirGainHi _ => "WR_RO_FIR_GAIN_HI"
  | .rdUnmapped014 => "RD_UNMAPPED_014"
  | .wrUnmapped014 _ => "WR_UNMAPPED_014"
  | .rdUnmapped074 => "RD_UNMAPPED_074"
  | .wrUnmapped074 _ => "WR_UNMAPPED_074"
  | .rdUnmappedHiB7 _ => "RD_UNMAPPED_HI_B7"
  | .wrUnmappedHiB7 _ _ => "WR_UNMAPPED_HI_B7"
  | .rdUnmappedHiB8 _ => "RD_UNMAPPED_HI_B8"
  | .wrUnmappedHiB8 _ _ => "WR_UNMAPPED_HI_B8"
  | .rdUnmappedHiB9 _ => "RD_UNMAPPED_HI_B9"
  | .wrUnmappedHiB9 _ _ => "WR_UNMAPPED_HI_B9"
  | .rdUnmappedHiB10 _ => "RD_UNMAPPED_HI_B10"
  | .wrUnmappedHiB10 _ _ => "WR_UNMAPPED_HI_B10"
  | .rdUnmappedHiB11 _ => "RD_UNMAPPED_HI_B11"
  | .wrUnmappedHiB11 _ _ => "WR_UNMAPPED_HI_B11"
  | .nop => "NOP"
  | .start => "START"
  | .eos => "EOS"
  | .abort => "ABORT"
  | .stageReset _ => "STAGE_RESET"
  | .cmdIllegal _ => "CMD_ILLEGAL"
  | .inBeat _ _ => "IN_BEAT"
  | .outBeat => "OUT_BEAT"

end Sys2Proof
end

