-- ==== Sys2Proof/Machine/State.lean ====
section
/-! DEFINITION. The state of the block (10_state.md), the reasons a step can stop, and the state after reset
(70_reset_and_hazards.md rule R330). -/

namespace Sys2Proof.Machine

/-- The tap RAM's image: byte `8·i + j` is byte `j` of entry `i`, little-endian (R61). Addresses rise strictly; an
unlisted byte holds no value of the list's: it was never written since power-up (R52). Log entries 4 and 7. -/
abbrev Memory := List Host.Cell

/-- STATE (R45). -/
inductive RunState where
  | idle
  | run
  | done
  | fault
deriving DecidableEq, Repr

/-- A bus response (R81). -/
inductive Resp where
  | okay
  | slverr
deriving DecidableEq, Repr

/-- The result of a transaction on its interface (R66, R80). -/
inductive Result where
  /-- No transaction has completed since reset. -/
  | none
  /-- A bus read returned RDATA and RESP. -/
  | read (rdata : U32) (resp : Resp)
  /-- A bus write returned RESP. -/
  | written (resp : Resp)
  /-- An input beat's handshake completed. -/
  | accepted
  /-- An output beat delivered DATA[63:0]. -/
  | delivered (data : F64)
deriving DecidableEq, Repr

/-- ERR_CAUSE, its defined fields (R27); the reserved bits read 0 and are not held. -/
structure ErrCause where
  cause : BitVec 4
  detail : BitVec 4
  stage : BitVec 3
deriving DecidableEq, Repr

/-- Why a step stops with a fault. A fault of the block (R305) is no such stop: it is a next state. -/
inductive Fault where
  /-- Raised by a transaction that would use a tap RAM index at or above TAP_DEPTH: the RAM has no such entry (R60).
  Only a state that no run from reset reaches gives one (R36, R40). Safe. -/
  | tapIndexOutOfRange (index : Nat)
deriving DecidableEq, Repr

/-- Why a step is refused. -/
inductive Refusal where
  /-- Raised by exec for an instruction that has no meaning yet. Safe. No arm of this model raises it. -/
  | notModelled (mnemonic : String)
deriving DecidableEq, Repr

/-- Everything the spec gives the block, and three fields of the model's own at the end. -/
structure State where
  /-- STATE (R45). -/
  runState : RunState
  /-- ERR_CAUSE (R27). -/
  errCause : ErrCause
  /-- ERR_INDEX (R28). -/
  errIndex : U64
  /-- IRQ_STATUS bits 1:0: bit 0 DONE, bit 1 FAULT (R29); bits 31:2 read 0 and are not held. -/
  irqStatus : BitVec 2
  /-- IRQ_ENABLE bits 1:0: bit 0 DONE_EN, bit 1 FAULT_EN (R30). -/
  irqEnable : BitVec 2
  /-- SAMPLE_RATE (R31). -/
  sampleRate : U32
  /-- DECIM_M (R32). -/
  decimM : U32
  /-- DC_ALPHA (R33). -/
  dcAlpha : F64
  /-- MIX_FREQ (R34). -/
  mixFreq : F64
  /-- FIR_NTAPS (R35). -/
  firNtaps : U32
  /-- TAP_ADDR.ADDR (R36). -/
  tapAddr : BitVec 16
  /-- TAP_WLO (R37). -/
  tapWlo : U32
  /-- TAP_RHI (R37). -/
  tapRhi : U32
  /-- W_ALPHA (R40). -/
  wAlpha : F64
  /-- W_INC, read as NCO_INC (R38, R40). -/
  wInc : F64
  /-- W_NTAPS (R40). -/
  wNtaps : U32
  /-- W_M (R40). -/
  wM : U32
  /-- IN_COUNT (R41). -/
  inCount : U64
  /-- OUT_COUNT (R41). -/
  outCount : U64
  /-- OUT_RATE (R42). -/
  outRate : U32
  /-- STATUS.RATE_INEXACT (R42). -/
  rateInexact : Bool
  /-- FIR_GAIN (R43). -/
  firGain : F64
  /-- SNAP (R44). -/
  snap : U32
  /-- DC_PX, the DC blocker's last input (R46). -/
  dcPx : Cplx
  /-- DC_PY, the DC blocker's last output (R46). -/
  dcPy : Cplx
  /-- PHI, the oscillator's phase (R47). -/
  phi : F64
  /-- HIST (R48): entry j is the FIR input j+1 samples back, and an entry beyond the list is CZERO. Log entry 8. -/
  hist : List Cplx
  /-- DEC_CNT (R49). -/
  decCnt : U32
  /-- DEM_PREV (R50). -/
  demPrev : Cplx
  /-- DEM_HAS_PREV (R50). -/
  demHasPrev : Bool
  /-- DEM_KEPT, a count of 0, 1 or 2 (R50). -/
  demKept : Nat
  /-- Q, the output queue, the oldest value first (R51). -/
  queue : List F64
  /-- The tap RAM (R52). -/
  taps : Memory
  /-- The model's own: what the host offers, in the order the block takes it (R67, U3). Log entry 1. -/
  offered : List Event
  /-- The model's own: the result of the last completed transaction (R66). Log entry 1. -/
  result : Result
  /-- The model's own: the parameters TAP_DEPTH and OUT_FIFO_DEPTH, no state of the block but the argument that every
  operation takes (R8, R54). Nothing changes it, reset included. Log entry 11. -/
  build : Config.Build
deriving DecidableEq, Repr

/-- The block of a build after reset (R330). The tap RAM lists nothing: it was never written since power-up (R331). -/
def State.resetOf (build : Config.Build) : State where
  runState := .idle
  errCause := ⟨0, 0, 0⟩
  errIndex := 0
  irqStatus := 0
  irqEnable := 0
  sampleRate := 0
  decimM := 1
  dcAlpha := 0x3FEFAE147AE147AE
  mixFreq := zero64
  firNtaps := 0
  tapAddr := 0
  tapWlo := 0
  tapRhi := 0
  wAlpha := zero64
  wInc := zero64
  wNtaps := 0
  wM := 1
  inCount := 0
  outCount := 0
  outRate := 0
  rateInexact := false
  firGain := zero64
  snap := 0
  dcPx := czero
  dcPy := czero
  phi := zero64
  hist := []
  decCnt := 0
  demPrev := czero
  demHasPrev := false
  demKept := 0
  queue := []
  taps := []
  offered := []
  result := .none
  build := build

/-- The block of this spec's build after reset (R8, R330). -/
def State.reset : State := State.resetOf Config.specBuild

end Sys2Proof.Machine
end

