-- ==== Sys2Proof/Machine/Operands.lean ====
section
/-! DEFINITION. Operand assembly: halves and pairs of 64-bit values, and the fields of a write's data
(20_memory.md rule R61, 30_encoding.md rule R90). -/

namespace Sys2Proof.Machine

/-- Bits 31:0 of a 64-bit value, the LO register's (R61). -/
def lo32 (v : BitVec 64) : U32 := v.extractLsb' 0 32

/-- Bits 63:32 of a 64-bit value, the HI register's (R61). -/
def hi32 (v : BitVec 64) : U32 := v.extractLsb' 32 32

/-- `{hi, lo}` (R90). -/
def pair64 (hi lo : U32) : BitVec 64 := hi ++ lo

/-- The value with its bits 31:0 replaced, as a write of a LO register does. -/
def withLo (v : BitVec 64) (lo : U32) : BitVec 64 := pair64 (hi32 v) lo

/-- The value with its bits 63:32 replaced, as a write of a HI register does. -/
def withHi (v : BitVec 64) (hi : U32) : BitVec 64 := pair64 hi (lo32 v)

/-- WDATA[15:0], the index a write of TAP_ADDR gives; bits 31:16 are ignored (R90, R117). -/
def tapIndexOperand (wdata : U32) : BitVec 16 := wdata.extractLsb' 0 16

/-- WDATA[1:0], the bits a write of IRQ_STATUS or IRQ_ENABLE uses; bits 31:2 are ignored (R110, R113). -/
def irqBitsOperand (wdata : U32) : BitVec 2 := wdata.extractLsb' 0 2

/-- The SMASK of a START: all five stages (R87, R152). -/
def allStages : BitVec 5 := 0b11111#5

end Sys2Proof.Machine
end

