-- ==== Sys2Proof/Machine/Flags.lean ====
section
/-! DEFINITION. The status bits and the words software reads them in (10_state.md rules R24 to R30, R53). -/

namespace Sys2Proof.Machine

/-- The code of STATE in STATUS[1:0] (R45). -/
def stateCode : RunState → BitVec 2
  | .idle => 0#2
  | .run => 1#2
  | .done => 2#2
  | .fault => 3#2

/-- RESP on the host interface (R81). -/
def respCode : Resp → BitVec 2
  | .okay => 0b00#2
  | .slverr => 0b10#2

/-- The level of the irq output (R53). -/
def irqLevel (s : State) : Bool :=
  (s.irqStatus.getLsbD 0 && s.irqEnable.getLsbD 0) || (s.irqStatus.getLsbD 1 && s.irqEnable.getLsbD 1)

/-- STATUS.IN_READY: the input port accepts a beat (R26, R170). -/
def inReady (s : State) : Bool := decide (s.runState = .run) && decide (s.queue.length < s.build.outFifoDepth)

/-- STATUS.OUT_AVAIL: the output port offers a value (R26, R176). -/
def outAvail (s : State) : Bool := decide (0 < s.queue.length)

/-- The word a read of STATUS returns (R106). -/
def statusWord (s : State) : U32 :=
  0#16 ++ BitVec.ofNat 8 s.queue.length ++ 0#2 ++ BitVec.ofBool (irqLevel s) ++ BitVec.ofBool s.rateInexact ++
    BitVec.ofBool (inReady s) ++ BitVec.ofBool (outAvail s) ++ stateCode s.runState

/-- The word a read of ERR_CAUSE returns (R107). -/
def errCauseWord (e : ErrCause) : U32 := 0#13 ++ e.stage ++ 0#4 ++ e.detail ++ 0#4 ++ e.cause

/-- The word a read of ID returns (R23). -/
def idWord : U32 := 0x464D4431#32

/-- The word a read of PARAMS returns (R103). -/
def paramsWord (build : Config.Build) : U32 :=
  0#8 ++ BitVec.ofNat 8 build.outFifoDepth ++ BitVec.ofNat 16 build.tapDepth

/-- The word a read of IRQ_STATUS or IRQ_ENABLE returns (R111, R112). -/
def irqWord (bits : BitVec 2) : U32 := 0#30 ++ bits

/-- The word a read of TAP_ADDR returns (R116). -/
def tapAddrWord (index : BitVec 16) : U32 := 0#16 ++ index

/-- IRQ_STATUS with DONE set (R29, R158). -/
def setDone (bits : BitVec 2) : BitVec 2 := bits ||| 0b01#2

/-- IRQ_STATUS with FAULT set (R29, R305). -/
def setFault (bits : BitVec 2) : BitVec 2 := bits ||| 0b10#2

/-- IRQ_STATUS with each bit written as 1 cleared (R110). -/
def clearOnes (bits written : BitVec 2) : BitVec 2 := bits &&& ~~~written

end Sys2Proof.Machine
end

