-- ==== Sys2Proof/Machine/Ops.lean ====
section
/-! DEFINITION. The shared operations: the tap RAM, the FIR history, the answers of the interfaces, the fault
procedure, the clearing of stages, reset, and the order in which offered transactions are taken. -/

namespace Sys2Proof.Machine

/-! The tap RAM -/

/-- The byte listed at an address; none where nothing has been written since power-up. -/
def memRead : Memory → Nat → Option Byte
  | [], _ => none
  | (b, v) :: m, a => if b = a then some v else memRead m a

/-- The memory with one byte written, its addresses still rising strictly. -/
def memWrite : Memory → Nat → Byte → Memory
  | [], a, v => [(a, v)]
  | (b, w) :: m, a, v =>
    if a < b then (a, v) :: (b, w) :: m
    else if a = b then (a, v) :: m
    else (b, w) :: memWrite m a v

/-- The one form of a memory: strictly rising addresses, all inside the image of a tap RAM of `depth` entries. -/
def Memory.wf (m : Memory) (depth : Nat) : Bool :=
  decide (m.Pairwise fun x y => x.1 < y.1) && m.all fun x => decide (x.1 < 8 * depth)

/-- The byte of the tap RAM's image at an address: a byte never written reads as the free power-up value (U1). -/
def tapByte (m : Memory) (a : Nat) : Byte := (memRead m a).getD (Config.powerUpByte a)

/-- `TapRead(i)`: the f64 of entry i, its eight bytes little-endian (R13, R61). -/
def tapRead (m : Memory) (i : Nat) : F64 :=
  tapByte m (8 * i + 7) ++ tapByte m (8 * i + 6) ++ tapByte m (8 * i + 5) ++ tapByte m (8 * i + 4) ++
    tapByte m (8 * i + 3) ++ tapByte m (8 * i + 2) ++ tapByte m (8 * i + 1) ++ tapByte m (8 * i)

/-- `n` bytes of a value from bit 8·j up, written to ascending addresses from `a + j`. -/
def memWriteBytes (m : Memory) (a : Nat) (v : F64) : Nat → Memory
  | 0 => m
  | n + 1 => memWrite (memWriteBytes m a v n) (a + n) (v.extractLsb' (8 * n) 8)

/-- `TapWrite(i, v)`: all eight bytes of entry i at once (R13, R64). -/
def tapWrite (m : Memory) (i : Nat) (v : F64) : Memory := memWriteBytes m (8 * i) v 8

/-- `(TAP_ADDR + 1) mod TAP_DEPTH` (R120, R121). -/
def nextTapAddr (depth : Nat) (index : BitVec 16) : BitVec 16 := BitVec.ofNat 16 ((index.toNat + 1) % depth)

/-! The FIR history -/

/-- HIST[j]; an entry beyond the list is CZERO (R48). -/
def histGet (h : List Cplx) (j : Nat) : Cplx := h.getD j czero

/-- The history without the CZERO entries at its far end: the one list for one content. -/
def histTrim : List Cplx → List Cplx
  | [] => []
  | z :: h =>
    match histTrim h with
    | [] => if z = czero then [] else [z]
    | y :: t => z :: y :: t

/-- The next HIST (R220): for N >= 2 entry 0 is `m`, entries 1 to N−2 are the old 0 to N−3, and the rest stay; for N
= 1 nothing changes. -/
def histPush (n : Nat) (m : Cplx) (h : List Cplx) : List Cplx :=
  if n < 2 then h else histTrim (m :: (h.take (n - 2) ++ h.drop (n - 1)))

/-! The answers of the interfaces -/

/-- A read returns `(v, OKAY)` (R100). -/
def answerRead (v : U32) (s : State) : State := { s with result := .read v .okay }

/-- A write returns OKAY (R100). -/
def answerWrite (s : State) : State := { s with result := .written .okay }

/-- A read is refused: SLVERR, RDATA 0x00000000, and nothing changes (R81). -/
def refuseRead (s : State) : State := { s with result := .read 0#32 .slverr }

/-- A write is refused: SLVERR, and nothing changes (R81). -/
def refuseWrite (s : State) : State := { s with result := .written .slverr }

/-- A LO read of a live pair: bits 31:0 are returned and bits 63:32 go to SNAP (R44). -/
def answerLive (v : BitVec 64) (s : State) : State := answerRead (lo32 v) { s with snap := hi32 v }

/-- A beat that its port does not take yet stays offered, first in the order (R67). -/
def keepOffered (t : Txn) (s : State) : State := { s with offered := .txn t :: s.offered }

/-! Faults, stage clearing and reset -/

/-- The fault procedure (R305). What the transaction did before the raise stays done; what it has not committed is
not in `s`. A bus write that raises returns OKAY. There is no return from it: START and ABORT leave FAULT (R310). -/
def raiseFault (cause detail : BitVec 4) (stage : BitVec 3) (index : U64) (s : State) : State :=
  { s with
    runState := .fault
    errCause := ⟨cause, detail, stage⟩
    errIndex := index
    queue := []
    irqStatus := setFault s.irqStatus }

/-- `ClearStages(S)` (R164); the bits of the mask are DCB, NCO, FIR, DEC and DEM from bit 0 up (R87). -/
def clearStages (mask : BitVec 5) (s : State) : State :=
  { s with
    dcPx := if mask.getLsbD 0 then czero else s.dcPx
    dcPy := if mask.getLsbD 0 then czero else s.dcPy
    phi := if mask.getLsbD 1 then zero64 else s.phi
    hist := if mask.getLsbD 2 then [] else s.hist
    decCnt := if mask.getLsbD 3 then 0#32 else s.decCnt
    demPrev := if mask.getLsbD 4 then czero else s.demPrev
    demHasPrev := if mask.getLsbD 4 then false else s.demHasPrev
    demKept := if mask.getLsbD 4 then 0 else s.demKept }

/-- Reset takes effect (R330): every element but the tap RAM takes its reset value; what is offered waits and is
performed afterwards (D44). The build stays what it is (R8). -/
def takeReset (s : State) : State := { State.resetOf s.build with taps := s.taps, offered := s.offered }

/-! The order of the transactions -/

/-- The block can perform this now: a bus access and reset always, a beat when its port is ready (R67, R170, R176). -/
def canPerform (s : State) : Event → Bool
  | .txn (.input _) => inReady s
  | .txn .output => outAvail s
  | .txn (.bus _ _ _ _) => true
  | .txn (.command _) => true
  | .reset => true

/-- The first offered event the block can perform, and the others in their order. -/
def firstReady (s : State) : List Event → Option (Event × List Event)
  | [] => none
  | e :: es =>
    if canPerform s e then some (e, es)
    else
      match firstReady s es with
      | some (x, rest) => some (x, e :: rest)
      | none => none

/-- The event the block turns to, and what stays offered: the first it can perform; when it can perform none, the
first, which then waits (R67). -/
def nextEvent (s : State) : Option (Event × List Event) :=
  match firstReady s s.offered, s.offered with
  | some r, _ => some r
  | none, e :: es => some (e, es)
  | none, [] => none

end Sys2Proof.Machine
end

