-- ==== Sys2Proof/Machine/BusErrors.lean ====
section
/-! DEFINITION. The bus accesses that fail decode (30_encoding.md rules R82 to R84). -/

namespace Sys2Proof.Machine

/-- A write with STRB = 0000: SLVERR, nothing changes (R63, R82 item 1). -/
def execWrBadstrb0000 (_addr : BitVec 12) (_wdata : U32) (s : State) : Host.Outcome State Fault Refusal := .next (refuseWrite s)

/-- A write with STRB = 0001: SLVERR, nothing changes (R63, R82 item 1). -/
def execWrBadstrb0001 (_addr : BitVec 12) (_wdata : U32) (s : State) : Host.Outcome State Fault Refusal := .next (refuseWrite s)

/-- A write with STRB = 0010: SLVERR, nothing changes (R63, R82 item 1). -/
def execWrBadstrb0010 (_addr : BitVec 12) (_wdata : U32) (s : State) : Host.Outcome State Fault Refusal := .next (refuseWrite s)

/-- A write with STRB = 0011: SLVERR, nothing changes (R63, R82 item 1). -/
def execWrBadstrb0011 (_addr : BitVec 12) (_wdata : U32) (s : State) : Host.Outcome State Fault Refusal := .next (refuseWrite s)

/-- A write with STRB = 0100: SLVERR, nothing changes (R63, R82 item 1). -/
def execWrBadstrb0100 (_addr : BitVec 12) (_wdata : U32) (s : State) : Host.Outcome State Fault Refusal := .next (refuseWrite s)

/-- A write with STRB = 0101: SLVERR, nothing changes (R63, R82 item 1). -/
def execWrBadstrb0101 (_addr : BitVec 12) (_wdata : U32) (s : State) : Host.Outcome State Fault Refusal := .next (refuseWrite s)

/-- A write with STRB = 0110: SLVERR, nothing changes (R63, R82 item 1). -/
def execWrBadstrb0110 (_addr : BitVec 12) (_wdata : U32) (s : State) : Host.Outcome State Fault Refusal := .next (refuseWrite s)

/-- A write with STRB = 0111: SLVERR, nothing changes (R63, R82 item 1). -/
def execWrBadstrb0111 (_addr : BitVec 12) (_wdata : U32) (s : State) : Host.Outcome State Fault Refusal := .next (refuseWrite s)

/-- A write with STRB = 1000: SLVERR, nothing changes (R63, R82 item 1). -/
def execWrBadstrb1000 (_addr : BitVec 12) (_wdata : U32) (s : State) : Host.Outcome State Fault Refusal := .next (refuseWrite s)

/-- A write with STRB = 1001: SLVERR, nothing changes (R63, R82 item 1). -/
def execWrBadstrb1001 (_addr : BitVec 12) (_wdata : U32) (s : State) : Host.Outcome State Fault Refusal := .next (refuseWrite s)

/-- A write with STRB = 1010: SLVERR, nothing changes (R63, R82 item 1). -/
def execWrBadstrb1010 (_addr : BitVec 12) (_wdata : U32) (s : State) : Host.Outcome State Fault Refusal := .next (refuseWrite s)

/-- A write with STRB = 1011: SLVERR, nothing changes (R63, R82 item 1). -/
def execWrBadstrb1011 (_addr : BitVec 12) (_wdata : U32) (s : State) : Host.Outcome State Fault Refusal := .next (refuseWrite s)

/-- A write with STRB = 1100: SLVERR, nothing changes (R63, R82 item 1). -/
def execWrBadstrb1100 (_addr : BitVec 12) (_wdata : U32) (s : State) : Host.Outcome State Fault Refusal := .next (refuseWrite s)

/-- A write with STRB = 1101: SLVERR, nothing changes (R63, R82 item 1). -/
def execWrBadstrb1101 (_addr : BitVec 12) (_wdata : U32) (s : State) : Host.Outcome State Fault Refusal := .next (refuseWrite s)

/-- A write with STRB = 1110: SLVERR, nothing changes (R63, R82 item 1). -/
def execWrBadstrb1110 (_addr : BitVec 12) (_wdata : U32) (s : State) : Host.Outcome State Fault Refusal := .next (refuseWrite s)

/-- A read with ADDR[1:0] = 1: SLVERR, nothing changes (R83). -/
def execRdMisaligned1 (_addr : BitVec 12) (s : State) : Host.Outcome State Fault Refusal := .next (refuseRead s)

/-- A write with ADDR[1:0] = 1: SLVERR, nothing changes (R83). -/
def execWrMisaligned1 (_addr : BitVec 12) (_wdata : U32) (s : State) : Host.Outcome State Fault Refusal := .next (refuseWrite s)

/-- A read with ADDR[1:0] = 2: SLVERR, nothing changes (R83). -/
def execRdMisaligned2 (_addr : BitVec 12) (s : State) : Host.Outcome State Fault Refusal := .next (refuseRead s)

/-- A write with ADDR[1:0] = 2: SLVERR, nothing changes (R83). -/
def execWrMisaligned2 (_addr : BitVec 12) (_wdata : U32) (s : State) : Host.Outcome State Fault Refusal := .next (refuseWrite s)

/-- A read with ADDR[1:0] = 3: SLVERR, nothing changes (R83). -/
def execRdMisaligned3 (_addr : BitVec 12) (s : State) : Host.Outcome State Fault Refusal := .next (refuseRead s)

/-- A write with ADDR[1:0] = 3: SLVERR, nothing changes (R83). -/
def execWrMisaligned3 (_addr : BitVec 12) (_wdata : U32) (s : State) : Host.Outcome State Fault Refusal := .next (refuseWrite s)

/-- A read of the unmapped offset 0x014: SLVERR, nothing changes (R84). -/
def execRdUnmapped014 (s : State) : Host.Outcome State Fault Refusal := .next (refuseRead s)

/-- A write of the unmapped offset 0x014: SLVERR, nothing changes (R84). -/
def execWrUnmapped014 (_wdata : U32) (s : State) : Host.Outcome State Fault Refusal := .next (refuseWrite s)

/-- A read of the unmapped offset 0x074: SLVERR, nothing changes (R84). -/
def execRdUnmapped074 (s : State) : Host.Outcome State Fault Refusal := .next (refuseRead s)

/-- A write of the unmapped offset 0x074: SLVERR, nothing changes (R84). -/
def execWrUnmapped074 (_wdata : U32) (s : State) : Host.Outcome State Fault Refusal := .next (refuseWrite s)

/-- A read of an unmapped offset 0x080 to 0x0FC: SLVERR, nothing changes (R84). -/
def execRdUnmappedHiB7 (_addr : BitVec 12) (s : State) : Host.Outcome State Fault Refusal := .next (refuseRead s)

/-- A write of an unmapped offset 0x080 to 0x0FC: SLVERR, nothing changes (R84). -/
def execWrUnmappedHiB7 (_addr : BitVec 12) (_wdata : U32) (s : State) : Host.Outcome State Fault Refusal := .next (refuseWrite s)

/-- A read of an unmapped offset 0x100 to 0x1FC: SLVERR, nothing changes (R84). -/
def execRdUnmappedHiB8 (_addr : BitVec 12) (s : State) : Host.Outcome State Fault Refusal := .next (refuseRead s)

/-- A write of an unmapped offset 0x100 to 0x1FC: SLVERR, nothing changes (R84). -/
def execWrUnmappedHiB8 (_addr : BitVec 12) (_wdata : U32) (s : State) : Host.Outcome State Fault Refusal := .next (refuseWrite s)

/-- A read of an unmapped offset 0x200 to 0x3FC: SLVERR, nothing changes (R84). -/
def execRdUnmappedHiB9 (_addr : BitVec 12) (s : State) : Host.Outcome State Fault Refusal := .next (refuseRead s)

/-- A write of an unmapped offset 0x200 to 0x3FC: SLVERR, nothing changes (R84). -/
def execWrUnmappedHiB9 (_addr : BitVec 12) (_wdata : U32) (s : State) : Host.Outcome State Fault Refusal := .next (refuseWrite s)

/-- A read of an unmapped offset 0x400 to 0x7FC: SLVERR, nothing changes (R84). -/
def execRdUnmappedHiB10 (_addr : BitVec 12) (s : State) : Host.Outcome State Fault Refusal := .next (refuseRead s)

/-- A write of an unmapped offset 0x400 to 0x7FC: SLVERR, nothing changes (R84). -/
def execWrUnmappedHiB10 (_addr : BitVec 12) (_wdata : U32) (s : State) : Host.Outcome State Fault Refusal := .next (refuseWrite s)

/-- A read of an unmapped offset 0x800 to 0xFFC: SLVERR, nothing changes (R84). -/
def execRdUnmappedHiB11 (_addr : BitVec 12) (s : State) : Host.Outcome State Fault Refusal := .next (refuseRead s)

/-- A write of an unmapped offset 0x800 to 0xFFC: SLVERR, nothing changes (R84). -/
def execWrUnmappedHiB11 (_addr : BitVec 12) (_wdata : U32) (s : State) : Host.Outcome State Fault Refusal := .next (refuseWrite s)

end Sys2Proof.Machine
end

