-- ==== Sys2Proof/WellFormed.lean ====
section
/-! DEFINITION. Which terms of `Instr` stand for a transaction the interface can carry: an address operand lies in
the range of its row's match and mask, and an illegal command word is one that R88 calls illegal. -/

namespace Sys2Proof

/-- ADDR[1:0] = `k` (R83). -/
def misalignedBy (k : Nat) (addr : BitVec 12) : Bool := addr.toNat % 4 == k

/-- An aligned offset from `lo` up to `hi`, not included (R84). -/
def alignedIn (lo hi : Nat) (addr : BitVec 12) : Bool :=
  addr.toNat % 4 == 0 && decide (lo ≤ addr.toNat) && decide (addr.toNat < hi)

/-- R88: OPC in 0x05 to 0xFF, or a bit of 31:13 set, or OPC 0x00 to 0x03 with SMASK other than 0. -/
def illegalWord (w : U32) : Bool :=
  decide (5 ≤ w.toNat % 256) || decide (2 ^ 13 ≤ w.toNat) ||
    (decide (w.toNat % 256 ≤ 3) && decide (w.toNat / 256 % 32 ≠ 0))

/-- The check of one transaction. -/
def Instr.wellFormed : Instr → Bool
  | .wrBadstrb0000 _ _ => true
  | .wrBadstrb0001 _ _ => true
  | .wrBadstrb0010 _ _ => true
  | .wrBadstrb0011 _ _ => true
  | .wrBadstrb0100 _ _ => true
  | .wrBadstrb0101 _ _ => true
  | .wrBadstrb0110 _ _ => true
  | .wrBadstrb0111 _ _ => true
  | .wrBadstrb1000 _ _ => true
  | .wrBadstrb1001 _ _ => true
  | .wrBadstrb1010 _ _ => true
  | .wrBadstrb1011 _ _ => true
  | .wrBadstrb1100 _ _ => true
  | .wrBadstrb1101 _ _ => true
  | .wrBadstrb1110 _ _ => true
  | .rdMisaligned1 addr => misalignedBy 1 addr
  | .wrMisaligned1 addr _ => misalignedBy 1 addr
  | .rdMisaligned2 addr => misalignedBy 2 addr
  | .wrMisaligned2 addr _ => misalignedBy 2 addr
  | .rdMisaligned3 addr => misalignedBy 3 addr
  | .wrMisaligned3 addr _ => misalignedBy 3 addr
  | .rdId => true
  | .wrRoId _ => true
  | .rdParams => true
  | .wrRoParams _ => true
  | .rdCmd => true
  | .wrCmd _ => true
  | .rdStatus => true
  | .wrRoStatus _ => true
  | .rdErrCause => true
  | .wrRoErrCause _ => true
  | .rdErrIndexLo => true
  | .wrRoErrIndexLo _ => true
  | .rdErrIndexHi => true
  | .wrRoErrIndexHi _ => true
  | .rdIrqStatus => true
  | .wrIrqStatus _ => true
  | .rdIrqEnable => true
  | .wrIrqEnable _ => true
  | .rdSampleRate => true
  | .wrSampleRate _ => true
  | .rdDecimM => true
  | .wrDecimM _ => true
  | .rdDcAlphaLo => true
  | .wrDcAlphaLo _ => true
  | .rdDcAlphaHi => true
  | .wrDcAlphaHi _ => true
  | .rdMixFreqLo => true
  | .wrMixFreqLo _ => true
  | .rdMixFreqHi => true
  | .wrMixFreqHi _ => true
  | .rdFirNtaps => true
  | .wrFirNtaps _ => true
  | .rdTapAddr => true
  | .wrTapAddr _ => true
  | .rdTapDataLo => true
  | .wrTapDataLo _ => true
  | .rdTapDataHi => true
  | .wrTapDataHi _ => true
  | .rdNcoIncLo => true
  | .wrRoNcoIncLo _ => true
  | .rdNcoIncHi => true
  | .wrRoNcoIncHi _ => true
  | .rdNcoPhaseLo => true
  | .wrRoNcoPhaseLo _ => true
  | .rdNcoPhaseHi => true
  | .wrRoNcoPhaseHi _ => true
  | .rdInCountLo => true
  | .wrRoInCountLo _ => true
  | .rdInCountHi => true
  | .wrRoInCountHi _ => true
  | .rdOutCountLo => true
  | .wrRoOutCountLo _ => true
  | .rdOutCountHi => true
  | .wrRoOutCountHi _ => true
  | .rdOutRate => true
  | .wrRoOutRate _ => true
  | .rdFirGainLo => true
  | .wrRoFirGainLo _ => true
  | .rdFirGainHi => true
  | .wrRoFirGainHi _ => true
  | .rdUnmapped014 => true
  | .wrUnmapped014 _ => true
  | .rdUnmapped074 => true
  | .wrUnmapped074 _ => true
  | .rdUnmappedHiB7 addr => alignedIn 0x080 0x100 addr
  | .wrUnmappedHiB7 addr _ => alignedIn 0x080 0x100 addr
  | .rdUnmappedHiB8 addr => alignedIn 0x100 0x200 addr
  | .wrUnmappedHiB8 addr _ => alignedIn 0x100 0x200 addr
  | .rdUnmappedHiB9 addr => alignedIn 0x200 0x400 addr
  | .wrUnmappedHiB9 addr _ => alignedIn 0x200 0x400 addr
  | .rdUnmappedHiB10 addr => alignedIn 0x400 0x800 addr
  | .wrUnmappedHiB10 addr _ => alignedIn 0x400 0x800 addr
  | .rdUnmappedHiB11 addr => alignedIn 0x800 0x1000 addr
  | .wrUnmappedHiB11 addr _ => alignedIn 0x800 0x1000 addr
  | .nop => true
  | .start => true
  | .eos => true
  | .abort => true
  | .stageReset _ => true
  | .cmdIllegal word => illegalWord word
  | .inBeat _ _ => true
  | .outBeat => true

end Sys2Proof
end

