-- ==== Sys2Proof/Decode.lean ====
section
/-! DEFINITION. Decoding of the transactions (30_encoding.md rules R80 to R91) and, after it, the encoder.
Every transaction a host can offer decodes to exactly one row; bits that are no transaction are rejected by name. -/

namespace Sys2Proof

/-- Why some bits are no transaction. -/
inductive DecodeError where
  /-- No format of R80 has this width. -/
  | noFormat (nbits : Nat)
  /-- More than the 17 bits of a bus key. -/
  | keyTooWide (key : Nat)
  /-- A read's key has STRB = 1111 by convention (R80): no row has such a key. -/
  | readKeyStrobes (key : Nat)
deriving DecidableEq, Repr

/-- OPC, bits 7:0 of a command word (R86). -/
def opcField (w : U32) : BitVec 8 := w.extractLsb' 0 8

/-- SMASK, bits 12:8 of a command word (R86). -/
def smaskField (w : U32) : BitVec 5 := w.extractLsb' 8 5

/-- The reserved bits 31:13 of a command word (R86). -/
def reservedField (w : U32) : BitVec 19 := w.extractLsb' 13 19

/-- The command of a word (R86 to R88). -/
def decodeCommand (w : U32) : Command :=
  if reservedField w ≠ 0#19 then .illegal w
  else if opcField w = 0x04#8 then .stageReset (smaskField w)
  else if smaskField w ≠ 0#5 then .illegal w
  else if opcField w = 0x00#8 then .nop
  else if opcField w = 0x01#8 then .start
  else if opcField w = 0x02#8 then .eos
  else if opcField w = 0x03#8 then .abort
  else .illegal w

/-- The CMD row of a command. -/
def Command.toInstr : Command → Instr
  | .nop => .nop
  | .start => .start
  | .eos => .eos
  | .abort => .abort
  | .stageReset smask => .stageReset smask
  | .illegal word => .cmdIllegal word

/-- An aligned read: the mapped offsets of 10_state.md rule R22, then R84 (R82 items 3 and 4). -/
def decodeReadAligned (addr : BitVec 12) : Instr :=
  match addr.toNat with
  | 0x000 => .rdId
  | 0x004 => .rdParams
  | 0x008 => .rdCmd
  | 0x00C => .rdStatus
  | 0x010 => .rdErrCause
  | 0x018 => .rdErrIndexLo
  | 0x01C => .rdErrIndexHi
  | 0x020 => .rdIrqStatus
  | 0x024 => .rdIrqEnable
  | 0x028 => .rdSampleRate
  | 0x02C => .rdDecimM
  | 0x030 => .rdDcAlphaLo
  | 0x034 => .rdDcAlphaHi
  | 0x038 => .rdMixFreqLo
  | 0x03C => .rdMixFreqHi
  | 0x040 => .rdFirNtaps
  | 0x044 => .rdTapAddr
  | 0x048 => .rdTapDataLo
  | 0x04C => .rdTapDataHi
  | 0x050 => .rdNcoIncLo
  | 0x054 => .rdNcoIncHi
  | 0x058 => .rdNcoPhaseLo
  | 0x05C => .rdNcoPhaseHi
  | 0x060 => .rdInCountLo
  | 0x064 => .rdInCountHi
  | 0x068 => .rdOutCountLo
  | 0x06C => .rdOutCountHi
  | 0x070 => .rdOutRate
  | 0x078 => .rdFirGainLo
  | 0x07C => .rdFirGainHi
  | 0x014 => .rdUnmapped014
  | 0x074 => .rdUnmapped074
  | a =>
    if a < 0x100 then .rdUnmappedHiB7 addr
    else if a < 0x200 then .rdUnmappedHiB8 addr
    else if a < 0x400 then .rdUnmappedHiB9 addr
    else if a < 0x800 then .rdUnmappedHiB10 addr
    else .rdUnmappedHiB11 addr

/-- A read (R82 items 2 to 4). -/
def decodeRead (addr : BitVec 12) : Instr :=
  match addr.toNat % 4 with
  | 1 => .rdMisaligned1 addr
  | 2 => .rdMisaligned2 addr
  | 3 => .rdMisaligned3 addr
  | _ => decodeReadAligned addr

/-- An aligned full-strobe write (R82 items 3 and 4). -/
def decodeWriteAligned (addr : BitVec 12) (wdata : U32) : Instr :=
  match addr.toNat with
  | 0x000 => .wrRoId wdata
  | 0x004 => .wrRoParams wdata
  | 0x008 => .wrCmd wdata
  | 0x00C => .wrRoStatus wdata
  | 0x010 => .wrRoErrCause wdata
  | 0x018 => .wrRoErrIndexLo wdata
  | 0x01C => .wrRoErrIndexHi wdata
  | 0x020 => .wrIrqStatus wdata
  | 0x024 => .wrIrqEnable wdata
  | 0x028 => .wrSampleRate wdata
  | 0x02C => .wrDecimM wdata
  | 0x030 => .wrDcAlphaLo wdata
  | 0x034 => .wrDcAlphaHi wdata
  | 0x038 => .wrMixFreqLo wdata
  | 0x03C => .wrMixFreqHi wdata
  | 0x040 => .wrFirNtaps wdata
  | 0x044 => .wrTapAddr wdata
  | 0x048 => .wrTapDataLo wdata
  | 0x04C => .wrTapDataHi wdata
  | 0x050 => .wrRoNcoIncLo wdata
  | 0x054 => .wrRoNcoIncHi wdata
  | 0x058 => .wrRoNcoPhaseLo wdata
  | 0x05C => .wrRoNcoPhaseHi wdata
  | 0x060 => .wrRoInCountLo wdata
  | 0x064 => .wrRoInCountHi wdata
  | 0x068 => .wrRoOutCountLo wdata
  | 0x06C => .wrRoOutCountHi wdata
  | 0x070 => .wrRoOutRate wdata
  | 0x078 => .wrRoFirGainLo wdata
  | 0x07C => .wrRoFirGainHi wdata
  | 0x014 => .wrUnmapped014 wdata
  | 0x074 => .wrUnmapped074 wdata
  | a =>
    if a < 0x100 then .wrUnmappedHiB7 addr wdata
    else if a < 0x200 then .wrUnmappedHiB8 addr wdata
    else if a < 0x400 then .wrUnmappedHiB9 addr wdata
    else if a < 0x800 then .wrUnmappedHiB10 addr wdata
    else .wrUnmappedHiB11 addr wdata

/-- A write with all four strobes (R82 items 2 to 4). -/
def decodeWriteFull (addr : BitVec 12) (wdata : U32) : Instr :=
  match addr.toNat % 4 with
  | 1 => .wrMisaligned1 addr wdata
  | 2 => .wrMisaligned2 addr wdata
  | 3 => .wrMisaligned3 addr wdata
  | _ => decodeWriteAligned addr wdata

/-- A write: a partial strobe comes first (R82 item 1). -/
def decodeWrite (addr : BitVec 12) (strb : BitVec 4) (wdata : U32) : Instr :=
  match strb.toNat with
  | 0 => .wrBadstrb0000 addr wdata
  | 1 => .wrBadstrb0001 addr wdata
  | 2 => .wrBadstrb0010 addr wdata
  | 3 => .wrBadstrb0011 addr wdata
  | 4 => .wrBadstrb0100 addr wdata
  | 5 => .wrBadstrb0101 addr wdata
  | 6 => .wrBadstrb0110 addr wdata
  | 7 => .wrBadstrb0111 addr wdata
  | 8 => .wrBadstrb1000 addr wdata
  | 9 => .wrBadstrb1001 addr wdata
  | 10 => .wrBadstrb1010 addr wdata
  | 11 => .wrBadstrb1011 addr wdata
  | 12 => .wrBadstrb1100 addr wdata
  | 13 => .wrBadstrb1101 addr wdata
  | 14 => .wrBadstrb1110 addr wdata
  | _ => decodeWriteFull addr wdata

/-- The row of a transaction. A read ignores the strobes and the write data (R63). -/
def decode : Txn → Instr
  | .bus true addr strb wdata => decodeWrite addr strb wdata
  | .bus false addr _ _ => decodeRead addr
  | .command word => (decodeCommand word).toInstr
  | .input data => .inBeat (data.extractLsb' 64 64) (data.extractLsb' 0 64)
  | .output => .outBeat

/-- A bus access from its 17-bit key `(WE, STRB, ADDR)` and the write data beside it (R80). -/
def txnOfKey (key : Nat) (wdata : U32) : Except DecodeError Txn :=
  if 2 ^ 17 ≤ key then .error (.keyTooWide key)
  else
    let addr := BitVec.ofNat 12 key
    let strb := BitVec.ofNat 4 (key / 2 ^ 12)
    if key / 2 ^ 16 = 1 then .ok (.bus true addr strb wdata)
    else if strb = 0xF#4 then .ok (.bus false addr strb wdata)
    else .error (.readKeyStrobes key)

/-- The transaction whose table word is `w`, told by the width the table gives its row: a bus key of 17 bits (in
whole bytes 24), with write data 0; a command word of 32 bits; an input beat of 128 bits, or of fewer with the bits
above them 0; an output beat, which has no request bits, by no bits or by the 64 bits of its result. Log entry 3. -/
def txnOfTableWord (nbits w : Nat) : Except DecodeError Txn :=
  match nbits with
  | 17 | 24 => txnOfKey w 0#32
  | 32 => .ok (.command (BitVec.ofNat 32 w))
  | 8 | 16 | 128 => .ok (.input (BitVec.ofNat 128 w))
  | 0 | 64 => .ok .output
  | n => .error (.noFormat n)

/-- The instruction the decoder reads from a table word. -/
def decodeTableWord (nbits w : Nat) : Option Instr :=
  match txnOfTableWord nbits w with
  | .ok t => some (decode t)
  | .error _ => none

/-- The word of a command (R86). -/
def Command.word : Command → U32
  | .nop => 0x00000000#32
  | .start => 0x00000001#32
  | .eos => 0x00000002#32
  | .abort => 0x00000003#32
  | .stageReset smask => (0#19 ++ smask) ++ 0x04#8
  | .illegal word => word

/-- The bus read of an offset; a read's key has STRB = 1111 (R80). -/
def readTxn (addr : BitVec 12) : Txn := .bus false addr 0xF#4 0#32

/-- The full-strobe bus write of an offset (R92). -/
def writeTxn (addr : BitVec 12) (wdata : U32) : Txn := .bus true addr 0xF#4 wdata

/-- The 17-bit decode key of a bus access, `(WE, STRB, ADDR)`, a read's with STRB = 1111 (R80). -/
def Txn.key : Txn → Option (BitVec 17)
  | .bus true addr strb _ => some ((1#1 ++ strb) ++ addr)
  | .bus false addr _ _ => some ((0#1 ++ 0xF#4) ++ addr)
  | _ => none

/-- The transaction of a well-formed instruction (30_encoding.md rules R80, R82, R86; 10_state.md rule R22). -/
def encode : Instr → Txn
  | .wrBadstrb0000 addr wdata => .bus true addr 0b0000#4 wdata
  | .wrBadstrb0001 addr wdata => .bus true addr 0b0001#4 wdata
  | .wrBadstrb0010 addr wdata => .bus true addr 0b0010#4 wdata
  | .wrBadstrb0011 addr wdata => .bus true addr 0b0011#4 wdata
  | .wrBadstrb0100 addr wdata => .bus true addr 0b0100#4 wdata
  | .wrBadstrb0101 addr wdata => .bus true addr 0b0101#4 wdata
  | .wrBadstrb0110 addr wdata => .bus true addr 0b0110#4 wdata
  | .wrBadstrb0111 addr wdata => .bus true addr 0b0111#4 wdata
  | .wrBadstrb1000 addr wdata => .bus true addr 0b1000#4 wdata
  | .wrBadstrb1001 addr wdata => .bus true addr 0b1001#4 wdata
  | .wrBadstrb1010 addr wdata => .bus true addr 0b1010#4 wdata
  | .wrBadstrb1011 addr wdata => .bus true addr 0b1011#4 wdata
  | .wrBadstrb1100 addr wdata => .bus true addr 0b1100#4 wdata
  | .wrBadstrb1101 addr wdata => .bus true addr 0b1101#4 wdata
  | .wrBadstrb1110 addr wdata => .bus true addr 0b1110#4 wdata
  | .rdMisaligned1 addr => readTxn addr
  | .wrMisaligned1 addr wdata => writeTxn addr wdata
  | .rdMisaligned2 addr => readTxn addr
  | .wrMisaligned2 addr wdata => writeTxn addr wdata
  | .rdMisaligned3 addr => readTxn addr
  | .wrMisaligned3 addr wdata => writeTxn addr wdata
  | .rdId => readTxn 0x000#12
  | .wrRoId wdata => writeTxn 0x000#12 wdata
  | .rdParams => readTxn 0x004#12
  | .wrRoParams wdata => writeTxn 0x004#12 wdata
  | .rdCmd => readTxn 0x008#12
  | .wrCmd wdata => writeTxn 0x008#12 wdata
  | .rdStatus => readTxn 0x00C#12
  | .wrRoStatus wdata => writeTxn 0x00C#12 wdata
  | .rdErrCause => readTxn 0x010#12
  | .wrRoErrCause wdata => writeTxn 0x010#12 wdata
  | .rdErrIndexLo => readTxn 0x018#12
  | .wrRoErrIndexLo wdata => writeTxn 0x018#12 wdata
  | .rdErrIndexHi => readTxn 0x01C#12
  | .wrRoErrIndexHi wdata => writeTxn 0x01C#12 wdata
  | .rdIrqStatus => readTxn 0x020#12
  | .wrIrqStatus wdata => writeTxn 0x020#12 wdata
  | .rdIrqEnable => readTxn 0x024#12
  | .wrIrqEnable wdata => writeTxn 0x024#12 wdata
  | .rdSampleRate => readTxn 0x028#12
  | .wrSampleRate wdata => writeTxn 0x028#12 wdata
  | .rdDecimM => readTxn 0x02C#12
  | .wrDecimM wdata => writeTxn 0x02C#12 wdata
  | .rdDcAlphaLo => readTxn 0x030#12
  | .wrDcAlphaLo wdata => writeTxn 0x030#12 wdata
  | .rdDcAlphaHi => readTxn 0x034#12
  | .wrDcAlphaHi wdata => writeTxn 0x034#12 wdata
  | .rdMixFreqLo => readTxn 0x038#12
  | .wrMixFreqLo wdata => writeTxn 0x038#12 wdata
  | .rdMixFreqHi => readTxn 0x03C#12
  | .wrMixFreqHi wdata => writeTxn 0x03C#12 wdata
  | .rdFirNtaps => readTxn 0x040#12
  | .wrFirNtaps wdata => writeTxn 0x040#12 wdata
  | .rdTapAddr => readTxn 0x044#12
  | .wrTapAddr wdata => writeTxn 0x044#12 wdata
  | .rdTapDataLo => readTxn 0x048#12
  | .wrTapDataLo wdata => writeTxn 0x048#12 wdata
  | .rdTapDataHi => readTxn 0x04C#12
  | .wrTapDataHi wdata => writeTxn 0x04C#12 wdata
  | .rdNcoIncLo => readTxn 0x050#12
  | .wrRoNcoIncLo wdata => writeTxn 0x050#12 wdata
  | .rdNcoIncHi => readTxn 0x054#12
  | .wrRoNcoIncHi wdata => writeTxn 0x054#12 wdata
  | .rdNcoPhaseLo => readTxn 0x058#12
  | .wrRoNcoPhaseLo wdata => writeTxn 0x058#12 wdata
  | .rdNcoPhaseHi => readTxn 0x05C#12
  | .wrRoNcoPhaseHi wdata => writeTxn 0x05C#12 wdata
  | .rdInCountLo => readTxn 0x060#12
  | .wrRoInCountLo wdata => writeTxn 0x060#12 wdata
  | .rdInCountHi => readTxn 0x064#12
  | .wrRoInCountHi wdata => writeTxn 0x064#12 wdata
  | .rdOutCountLo => readTxn 0x068#12
  | .wrRoOutCountLo wdata => writeTxn 0x068#12 wdata
  | .rdOutCountHi => readTxn 0x06C#12
  | .wrRoOutCountHi wdata => writeTxn 0x06C#12 wdata
  | .rdOutRate => readTxn 0x070#12
  | .wrRoOutRate wdata => writeTxn 0x070#12 wdata
  | .rdFirGainLo => readTxn 0x078#12
  | .wrRoFirGainLo wdata => writeTxn 0x078#12 wdata
  | .rdFirGainHi => readTxn 0x07C#12
  | .wrRoFirGainHi wdata => writeTxn 0x07C#12 wdata
  | .rdUnmapped014 => readTxn 0x014#12
  | .wrUnmapped014 wdata => writeTxn 0x014#12 wdata
  | .rdUnmapped074 => readTxn 0x074#12
  | .wrUnmapped074 wdata => writeTxn 0x074#12 wdata
  | .rdUnmappedHiB7 addr => readTxn addr
  | .wrUnmappedHiB7 addr wdata => writeTxn addr wdata
  | .rdUnmappedHiB8 addr => readTxn addr
  | .wrUnmappedHiB8 addr wdata => writeTxn addr wdata
  | .rdUnmappedHiB9 addr => readTxn addr
  | .wrUnmappedHiB9 addr wdata => writeTxn addr wdata
  | .rdUnmappedHiB10 addr => readTxn addr
  | .wrUnmappedHiB10 addr wdata => writeTxn addr wdata
  | .rdUnmappedHiB11 addr => readTxn addr
  | .wrUnmappedHiB11 addr wdata => writeTxn addr wdata
  | .nop => .command Command.nop.word
  | .start => .command Command.start.word
  | .eos => .command Command.eos.word
  | .abort => .command Command.abort.word
  | .stageReset smask => .command (Command.stageReset smask).word
  | .cmdIllegal word => .command (Command.illegal word).word
  | .inBeat i q => .input (i ++ q)
  | .outBeat => .output

/-- The transaction as the encoder writes it: a read's strobes are 1111 and its write data 0, since a read ignores
both (R63). -/
def Txn.normalise : Txn → Txn
  | .bus false addr _ _ => readTxn addr
  | t => t

/-- One row of the opcode table: a bus access matches it when `key &&& mask = match`. -/
structure OpcodeRow where
  name : String
  pattern : BitVec 17
  mask : BitVec 17
deriving DecidableEq, Repr

/-- The BUS rows of spec/opcode_table.json, in the order of their priority: of the rows a key matches, the first one
is the transaction (R82). -/
def busRows : List OpcodeRow := [
  ⟨"WR_BADSTRB_0000", 0x10000#17, 0x1F000#17⟩,
  ⟨"WR_BADSTRB_0001", 0x11000#17, 0x1F000#17⟩,
  ⟨"WR_BADSTRB_0010", 0x12000#17, 0x1F000#17⟩,
  ⟨"WR_BADSTRB_0011", 0x13000#17, 0x1F000#17⟩,
  ⟨"WR_BADSTRB_0100", 0x14000#17, 0x1F000#17⟩,
  ⟨"WR_BADSTRB_0101", 0x15000#17, 0x1F000#17⟩,
  ⟨"WR_BADSTRB_0110", 0x16000#17, 0x1F000#17⟩,
  ⟨"WR_BADSTRB_0111", 0x17000#17, 0x1F000#17⟩,
  ⟨"WR_BADSTRB_1000", 0x18000#17, 0x1F000#17⟩,
  ⟨"WR_BADSTRB_1001", 0x19000#17, 0x1F000#17⟩,
  ⟨"WR_BADSTRB_1010", 0x1A000#17, 0x1F000#17⟩,
  ⟨"WR_BADSTRB_1011", 0x1B000#17, 0x1F000#17⟩,
  ⟨"WR_BADSTRB_1100", 0x1C000#17, 0x1F000#17⟩,
  ⟨"WR_BADSTRB_1101", 0x1D000#17, 0x1F000#17⟩,
  ⟨"WR_BADSTRB_1110", 0x1E000#17, 0x1F000#17⟩,
  ⟨"RD_MISALIGNED_1", 0x0F001#17, 0x1F003#17⟩,
  ⟨"WR_MISALIGNED_1", 0x1F001#17, 0x1F003#17⟩,
  ⟨"RD_MISALIGNED_2", 0x0F002#17, 0x1F003#17⟩,
  ⟨"WR_MISALIGNED_2", 0x1F002#17, 0x1F003#17⟩,
  ⟨"RD_MISALIGNED_3", 0x0F003#17, 0x1F003#17⟩,
  ⟨"WR_MISALIGNED_3", 0x1F003#17, 0x1F003#17⟩,
  ⟨"RD_ID", 0x0F000#17, 0x1FFFF#17⟩,
  ⟨"WR_RO_ID", 0x1F000#17, 0x1FFFF#17⟩,
  ⟨"RD_PARAMS", 0x0F004#17, 0x1FFFF#17⟩,
  ⟨"WR_RO_PARAMS", 0x1F004#17, 0x1FFFF#17⟩,
  ⟨"RD_CMD", 0x0F008#17, 0x1FFFF#17⟩,
  ⟨"WR_CMD", 0x1F008#17, 0x1FFFF#17⟩,
  ⟨"RD_STATUS", 0x0F00C#17, 0x1FFFF#17⟩,
  ⟨"WR_RO_STATUS", 0x1F00C#17, 0x1FFFF#17⟩,
  ⟨"RD_ERR_CAUSE", 0x0F010#17, 0x1FFFF#17⟩,
  ⟨"WR_RO_ERR_CAUSE", 0x1F010#17, 0x1FFFF#17⟩,
  ⟨"RD_ERR_INDEX_LO", 0x0F018#17, 0x1FFFF#17⟩,
  ⟨"WR_RO_ERR_INDEX_LO", 0x1F018#17, 0x1FFFF#17⟩,
  ⟨"RD_ERR_INDEX_HI", 0x0F01C#17, 0x1FFFF#17⟩,
  ⟨"WR_RO_ERR_INDEX_HI", 0x1F01C#17, 0x1FFFF#17⟩,
  ⟨"RD_IRQ_STATUS", 0x0F020#17, 0x1FFFF#17⟩,
  ⟨"WR_IRQ_STATUS", 0x1F020#17, 0x1FFFF#17⟩,
  ⟨"RD_IRQ_ENABLE", 0x0F024#17, 0x1FFFF#17⟩,
  ⟨"WR_IRQ_ENABLE", 0x1F024#17, 0x1FFFF#17⟩,
  ⟨"RD_SAMPLE_RATE", 0x0F028#17, 0x1FFFF#17⟩,
  ⟨"WR_SAMPLE_RATE", 0x1F028#17, 0x1FFFF#17⟩,
  ⟨"RD_DECIM_M", 0x0F02C#17, 0x1FFFF#17⟩,
  ⟨"WR_DECIM_M", 0x1F02C#17, 0x1FFFF#17⟩,
  ⟨"RD_DC_ALPHA_LO", 0x0F030#17, 0x1FFFF#17⟩,
  ⟨"WR_DC_ALPHA_LO", 0x1F030#17, 0x1FFFF#17⟩,
  ⟨"RD_DC_ALPHA_HI", 0x0F034#17, 0x1FFFF#17⟩,
  ⟨"WR_DC_ALPHA_HI", 0x1F034#17, 0x1FFFF#17⟩] ++ [
  ⟨"RD_MIX_FREQ_LO", 0x0F038#17, 0x1FFFF#17⟩,
  ⟨"WR_MIX_FREQ_LO", 0x1F038#17, 0x1FFFF#17⟩,
  ⟨"RD_MIX_FREQ_HI", 0x0F03C#17, 0x1FFFF#17⟩,
  ⟨"WR_MIX_FREQ_HI", 0x1F03C#17, 0x1FFFF#17⟩,
  ⟨"RD_FIR_NTAPS", 0x0F040#17, 0x1FFFF#17⟩,
  ⟨"WR_FIR_NTAPS", 0x1F040#17, 0x1FFFF#17⟩,
  ⟨"RD_TAP_ADDR", 0x0F044#17, 0x1FFFF#17⟩,
  ⟨"WR_TAP_ADDR", 0x1F044#17, 0x1FFFF#17⟩,
  ⟨"RD_TAP_DATA_LO", 0x0F048#17, 0x1FFFF#17⟩,
  ⟨"WR_TAP_DATA_LO", 0x1F048#17, 0x1FFFF#17⟩,
  ⟨"RD_TAP_DATA_HI", 0x0F04C#17, 0x1FFFF#17⟩,
  ⟨"WR_TAP_DATA_HI", 0x1F04C#17, 0x1FFFF#17⟩,
  ⟨"RD_NCO_INC_LO", 0x0F050#17, 0x1FFFF#17⟩,
  ⟨"WR_RO_NCO_INC_LO", 0x1F050#17, 0x1FFFF#17⟩,
  ⟨"RD_NCO_INC_HI", 0x0F054#17, 0x1FFFF#17⟩,
  ⟨"WR_RO_NCO_INC_HI", 0x1F054#17, 0x1FFFF#17⟩,
  ⟨"RD_NCO_PHASE_LO", 0x0F058#17, 0x1FFFF#17⟩,
  ⟨"WR_RO_NCO_PHASE_LO", 0x1F058#17, 0x1FFFF#17⟩,
  ⟨"RD_NCO_PHASE_HI", 0x0F05C#17, 0x1FFFF#17⟩,
  ⟨"WR_RO_NCO_PHASE_HI", 0x1F05C#17, 0x1FFFF#17⟩,
  ⟨"RD_IN_COUNT_LO", 0x0F060#17, 0x1FFFF#17⟩,
  ⟨"WR_RO_IN_COUNT_LO", 0x1F060#17, 0x1FFFF#17⟩,
  ⟨"RD_IN_COUNT_HI", 0x0F064#17, 0x1FFFF#17⟩,
  ⟨"WR_RO_IN_COUNT_HI", 0x1F064#17, 0x1FFFF#17⟩,
  ⟨"RD_OUT_COUNT_LO", 0x0F068#17, 0x1FFFF#17⟩,
  ⟨"WR_RO_OUT_COUNT_LO", 0x1F068#17, 0x1FFFF#17⟩,
  ⟨"RD_OUT_COUNT_HI", 0x0F06C#17, 0x1FFFF#17⟩,
  ⟨"WR_RO_OUT_COUNT_HI", 0x1F06C#17, 0x1FFFF#17⟩,
  ⟨"RD_OUT_RATE", 0x0F070#17, 0x1FFFF#17⟩,
  ⟨"WR_RO_OUT_RATE", 0x1F070#17, 0x1FFFF#17⟩,
  ⟨"RD_FIR_GAIN_LO", 0x0F078#17, 0x1FFFF#17⟩,
  ⟨"WR_RO_FIR_GAIN_LO", 0x1F078#17, 0x1FFFF#17⟩,
  ⟨"RD_FIR_GAIN_HI", 0x0F07C#17, 0x1FFFF#17⟩,
  ⟨"WR_RO_FIR_GAIN_HI", 0x1F07C#17, 0x1FFFF#17⟩,
  ⟨"RD_UNMAPPED_014", 0x0F014#17, 0x1FFFF#17⟩,
  ⟨"WR_UNMAPPED_014", 0x1F014#17, 0x1FFFF#17⟩,
  ⟨"RD_UNMAPPED_074", 0x0F074#17, 0x1FFFF#17⟩,
  ⟨"WR_UNMAPPED_074", 0x1F074#17, 0x1FFFF#17⟩,
  ⟨"RD_UNMAPPED_HI_B7", 0x0F080#17, 0x1FF83#17⟩,
  ⟨"WR_UNMAPPED_HI_B7", 0x1F080#17, 0x1FF83#17⟩,
  ⟨"RD_UNMAPPED_HI_B8", 0x0F100#17, 0x1FF03#17⟩,
  ⟨"WR_UNMAPPED_HI_B8", 0x1F100#17, 0x1FF03#17⟩,
  ⟨"RD_UNMAPPED_HI_B9", 0x0F200#17, 0x1FE03#17⟩,
  ⟨"WR_UNMAPPED_HI_B9", 0x1F200#17, 0x1FE03#17⟩,
  ⟨"RD_UNMAPPED_HI_B10", 0x0F400#17, 0x1FC03#17⟩,
  ⟨"WR_UNMAPPED_HI_B10", 0x1F400#17, 0x1FC03#17⟩,
  ⟨"RD_UNMAPPED_HI_B11", 0x0F800#17, 0x1F803#17⟩,
  ⟨"WR_UNMAPPED_HI_B11", 0x1F800#17, 0x1F803#17⟩]

/-- The name of the first BUS row a key matches. -/
def busRowName (key : BitVec 17) : Option String :=
  (busRows.find? fun r => key &&& r.mask == r.pattern).map OpcodeRow.name

end Sys2Proof
end

