-- ==== Sys2Proof/Machine/Float.lean ====
section
/-! DEFINITION. The binary64 primitives of 00_scope.md rule R10, computed exactly on integers and rounded once.
A finite value is a whole number of units of 2^-1074, the smallest subnormal. -/

namespace Sys2Proof.Machine

/-- Bit 63, the sign (R89). -/
def sign64 (x : F64) : Bool := x.getLsbD 63

/-- Bits 62:52, the biased exponent (R89). -/
def expo64 (x : F64) : Nat := x.toNat / 2 ^ 52 % 2048

/-- Bits 51:0, the fraction (R89). -/
def frac64 (x : F64) : Nat := x.toNat % 2 ^ 52

/-- `isfinite`: neither an infinity nor a NaN (R10). -/
def isFinite64 (x : F64) : Bool := expo64 x != 2047

/-- A NaN: exponent 0x7FF and a fraction other than 0 (R89). -/
def isNan64 (x : F64) : Bool := expo64 x == 2047 && frac64 x != 0

/-- An infinity: exponent 0x7FF and fraction 0 (R89). -/
def isInf64 (x : F64) : Bool := expo64 x == 2047 && frac64 x == 0

/-- A zero of either sign (R89). -/
def isZero64 (x : F64) : Bool := expo64 x == 0 && frac64 x == 0

/-- `isfinite` of a complex value (R12). -/
def isFiniteC (z : Cplx) : Bool := isFinite64 z.re && isFinite64 z.im

/-- The magnitude of a finite value in units of 2^-1074 (R89: e = 0 is zero or subnormal). -/
def mag64 (x : F64) : Nat :=
  if expo64 x = 0 then frac64 x else (2 ^ 52 + frac64 x) <<< (expo64 x - 1)

/-- The value of a finite pattern in units of 2^-1074. -/
def units64 (x : F64) : Int := if sign64 x then -(mag64 x : Int) else (mag64 x : Int)

/-- `neg64` flips bit 63 (R10). -/
def neg64 (x : F64) : F64 := x ^^^ 0x8000000000000000#64

/-- The zero of the given sign. -/
def signedZero (neg : Bool) : F64 := if neg then 0x8000000000000000#64 else 0x0000000000000000#64

/-- The infinity of the given sign. -/
def signedInf (neg : Bool) : F64 := if neg then 0xFFF0000000000000#64 else 0x7FF0000000000000#64

/-- The NaN an invalid operation gives. No NaN the block computes can be observed (U12). Log entry 6, DESIGN CHOICE. -/
def qnan64 : F64 := 0x7FF8000000000000#64

/-- `num / den` rounded to the nearest whole number, ties to even. -/
def roundEven (num den : Nat) : Nat :=
  let q := num / den
  let r := num % den
  if 2 * r < den then q else if den < 2 * r then q + 1 else q + q % 2

/-- The exponent step of a magnitude of `q` whole units: binary64 keeps 53 significant bits. -/
def scale64 (q : Nat) : Nat := Nat.log2 q - 52

/-- The magnitude bits (62:0) of `num / den` units rounded to nearest, ties to even (R10). At or above the pattern
of infinity the result is infinity. -/
def roundBits (num den : Nat) : Nat :=
  let e := scale64 (num / den)
  min (e * 2 ^ 52 + roundEven num (den <<< e)) (2047 * 2 ^ 52)

/-- The binary64 value of the given sign nearest `num / den` units (R10). -/
def round64 (neg : Bool) (num den : Nat) : F64 :=
  BitVec.ofNat 64 ((if neg then 2 ^ 63 else 0) + roundBits num den)

/-- A whole number of units that is not zero, rounded. -/
def roundInt64 (v : Int) : F64 := round64 (decide (v < 0)) v.natAbs 1

/-- `add64` (R10). An exact zero sum of finite operands is +0, but −0 for two −0 operands (G5). -/
def add64 (a b : F64) : F64 :=
  if isNan64 a || isNan64 b then qnan64
  else if isInf64 a then (if isInf64 b && sign64 a != sign64 b then qnan64 else a)
  else if isInf64 b then b
  else if units64 a + units64 b = 0 then signedZero (isZero64 a && isZero64 b && sign64 a && sign64 b)
  else roundInt64 (units64 a + units64 b)

/-- `sub64(a, b)`, the IEEE a − b (R10). -/
def sub64 (a b : F64) : F64 := add64 a (neg64 b)

/-- `mul64` (R10). -/
def mul64 (a b : F64) : F64 :=
  if isNan64 a || isNan64 b then qnan64
  else if isInf64 a || isInf64 b then
    (if isZero64 a || isZero64 b then qnan64 else signedInf (sign64 a != sign64 b))
  else round64 (sign64 a != sign64 b) (mag64 a * mag64 b) (1 <<< 1074)

/-- `div64` (R10). -/
def div64 (a b : F64) : F64 :=
  if isNan64 a || isNan64 b then qnan64
  else if isInf64 a then (if isInf64 b then qnan64 else signedInf (sign64 a != sign64 b))
  else if isInf64 b then signedZero (sign64 a != sign64 b)
  else if isZero64 b then (if isZero64 a then qnan64 else signedInf (sign64 a != sign64 b))
  else round64 (sign64 a != sign64 b) (mag64 a <<< 1074) (mag64 b)

/-- `rem64(a, b)`: the IEEE remainder a − b·n with n the integer nearest a/b, ties to even, computed exactly (R10).
A zero result keeps the sign of a. -/
def rem64 (a b : F64) : F64 :=
  if isNan64 a || isNan64 b || isInf64 a || isZero64 b then qnan64
  else if isInf64 b then a
  else
    let n := roundEven (mag64 a) (mag64 b)
    let r : Int := (mag64 a : Int) - (n * mag64 b : Nat)
    if r = 0 then signedZero (sign64 a)
    else round64 (sign64 a != decide (r < 0)) r.natAbs 1

/-- `f64(n)` for a u32 n: exact, since n < 2^53 (R200). -/
def ofU32 (n : U32) : F64 := round64 false (n.toNat <<< 1074) 1

/-- The place of a value in the IEEE order: both zeros at 0, the infinities at the ends. -/
def order64 (x : F64) : Int :=
  if sign64 x then -((x.toNat % 2 ^ 63 : Nat) : Int) else ((x.toNat % 2 ^ 63 : Nat) : Int)

/-- IEEE `a < b`: false when an operand is a NaN (R10). -/
def lt64 (a b : F64) : Bool := !isNan64 a && !isNan64 b && decide (order64 a < order64 b)

/-- IEEE `a <= b`: false when an operand is a NaN (R10). -/
def le64 (a b : F64) : Bool := !isNan64 a && !isNan64 b && decide (order64 a ≤ order64 b)

end Sys2Proof.Machine
end

