-- ==== Sys2Proof/Machine/Trig.lean ====
section
/-! DEFINITION. NCO_COS, NCO_SIN and DEM_ATAN2: opaque functions made to satisfy properties 1, 3, 4 and 5 of
44_nco_mixer.md rule R203 and 47_fm_demod.md rule R253; property 2 of each is stated as a named assumption. -/

namespace Sys2Proof.Machine

/-- The magnitude of a value: bit 63 cleared. -/
def abs64 (x : F64) : F64 := x &&& 0x7FFFFFFFFFFFFFFF#64

/-- A free value kept in [-bound, bound]: a value outside that range stands for ZERO. Every value of the range stays
possible, and nothing says which one it is (property 1). -/
def within64 (bound v : F64) : F64 :=
  if le64 (neg64 bound) v && le64 v bound then v else zero64

/-- NCO_COS (R203): ONE at both zeros, even, in [-1, 1]. -/
def ncoCos (phi : F64) : F64 :=
  if isZero64 phi then one64 else within64 one64 (Config.ncoCosFree (abs64 phi))

/-- NCO_SIN (R203): a zero at a zero, of its sign; odd; in [-1, 1]. -/
def ncoSin (phi : F64) : F64 :=
  if isZero64 phi then phi
  else if sign64 phi then neg64 (within64 one64 (Config.ncoSinFree (neg64 phi)))
  else within64 one64 (Config.ncoSinFree phi)

/-- DEM_ATAN2 (R253): the values on the axes, odd in `y`, in [-PI64, PI64]. -/
def demAtan2 (y x : F64) : F64 :=
  if isZero64 y && lt64 zero64 x then y
  else if isZero64 x && !isZero64 y then (if sign64 y then neg64 halfPi64 else halfPi64)
  else if sign64 y then neg64 (within64 pi64 (Config.demAtan2Free (neg64 y) x))
  else within64 pi64 (Config.demAtan2Free y x)

/-- `r` is a binary64 neighbour of the real value `u`, both in units of 2^-1074: the nearest from below or from above. -/
def IsFaithful (u : ℝ) (r : F64) : Prop :=
  isFinite64 r = true ∧
    (((units64 r : ℝ) ≤ u ∧ ∀ v, isFinite64 v = true → (units64 v : ℝ) ≤ u → units64 v ≤ units64 r) ∨
      (u ≤ (units64 r : ℝ) ∧ ∀ v, isFinite64 v = true → u ≤ (units64 v : ℝ) → units64 r ≤ units64 v))

/-- `-PI64 <= phi <= PI64`. -/
def inPiRange (phi : F64) : Bool := le64 (neg64 pi64) phi && le64 phi pi64

/-- Property 2 of NCO_COS (R203), an assumption on the free function. Log entry 5. -/
def NcoCosFaithful : Prop :=
  ∀ phi, inPiRange phi = true → IsFaithful (Real.cos ((units64 phi : ℝ) / 2 ^ 1074) * 2 ^ 1074) (ncoCos phi)

/-- Property 2 of NCO_SIN (R203), an assumption on the free function. Log entry 5. -/
def NcoSinFaithful : Prop :=
  ∀ phi, inPiRange phi = true → IsFaithful (Real.sin ((units64 phi : ℝ) / 2 ^ 1074) * 2 ^ 1074) (ncoSin phi)

/-- Property 2 of DEM_ATAN2 (R253), an assumption on the free function: faithful, or the bound when no faithful value
lies in [-PI64, PI64]. Log entry 5. -/
def DemAtan2Faithful : Prop :=
  ∀ y x, isFinite64 y = true → isFinite64 x = true → ¬(isZero64 y = true ∧ le64 x zero64 = true) →
    let angle := Complex.arg ⟨(units64 x : ℝ), (units64 y : ℝ)⟩ * 2 ^ 1074
    IsFaithful angle (demAtan2 y x) ∨
      ((∀ v, IsFaithful angle v → inPiRange v = false) ∧
        demAtan2 y x = if sign64 y then neg64 pi64 else pi64)

end Sys2Proof.Machine
end

