-- ==== Sys2Proof/Machine/Stages.lean ====
section
/-! DEFINITION. The five stages and the pipeline of one sample (42_stream_ports.md rule R172 and files 43 to 47).
Each stage is a function of its own state, the working configuration and its input (R173). -/

namespace Sys2Proof.Machine

/-- One component of the DC blocker: `(x − px) + alpha·py`, each operation rounded (R190, R191). -/
def dcbPart (alpha px py x : F64) : F64 := add64 (sub64 x px) (mul64 alpha py)

/-- `DcbStep(x)` (R190): its output y; the next state is DC_PX' = x and DC_PY' = y. -/
def dcbStep (alpha : F64) (px py x : Cplx) : Cplx :=
  ⟨dcbPart alpha px.re py.re x.re, dcbPart alpha px.im py.im x.im⟩

/-- `Wrap(s)` (R202). -/
def wrapPhase (s : F64) : F64 :=
  if lt64 pi64 s then sub64 s twoPi64
  else if lt64 s (neg64 pi64) then add64 s twoPi64
  else s

/-- The mixer's output `m` of `NcoStep(y)`, with the phase before the update (R201). -/
def ncoMix (phi : F64) (y : Cplx) : Cplx :=
  ⟨sub64 (mul64 y.re (ncoCos phi)) (mul64 y.im (ncoSin phi)),
    add64 (mul64 y.re (ncoSin phi)) (mul64 y.im (ncoCos phi))⟩

/-- The next phase of `NcoStep(y)` (R201). -/
def ncoNext (phi inc : F64) : F64 := wrapPhase (add64 phi inc)

/-- `IncRaw(f, fs)` (R200). -/
def incRaw (f : F64) (fs : U32) : F64 := neg64 (div64 (mul64 twoPi64 f) (ofU32 fs))

/-- The working increment: IncRaw reduced by the exact remainder (R200). -/
def incReduced (f : F64) (fs : U32) : F64 := rem64 (incRaw f fs) twoPi64

/-- One component of the FIR sum: the product of tap 0 and `m`, then the products of tap k and history entry k−1 added
one at a time, k ascending (R220). -/
def firSum (tap past : Nat → F64) (n : Nat) (m : F64) : F64 :=
  (List.range (n - 1)).foldl (fun acc k => add64 acc (mul64 (tap (k + 1)) (past k))) (mul64 (tap 0) m)

/-- The output of `FirStep(m)` (R220). -/
def firOut (tap : Nat → F64) (n : Nat) (h : List Cplx) (m : Cplx) : Cplx :=
  ⟨firSum tap (fun j => (histGet h j).re) n m.re, firSum tap (fun j => (histGet h j).im) n m.im⟩

/-- FIR_GAIN: the sum of the taps in ascending order (R43). -/
def firGainSum (tap : Nat → F64) (n : Nat) : F64 :=
  (List.range (n - 1)).foldl (fun g k => add64 g (tap (k + 1))) (tap 0)

/-- `keep` of `DecStep()` (R240). -/
def decKeep (cnt : U32) : Bool := cnt == 0#32

/-- DEC_CNT' of `DecStep()`; DEC_CNT + 1 is computed without overflow (R240). -/
def decNext (cnt m : U32) : U32 := if cnt.toNat + 1 = m.toNat then 0#32 else cnt + 1#32

/-- `Angle(p)` (R251). -/
def angle (p : Cplx) : F64 :=
  if isZero64 p.re && isZero64 p.im then zero64
  else if isZero64 p.im && lt64 p.re zero64 then pi64
  else demAtan2 p.im p.re

/-- `p = f · conj(DEM_PREV)` (R252). -/
def demProduct (f prev : Cplx) : Cplx :=
  ⟨add64 (mul64 f.re prev.re) (mul64 f.im prev.im), sub64 (mul64 f.im prev.re) (mul64 f.re prev.im)⟩

/-- What `DemStep` gives when it raises no fault (R252): the output, if there is one, and the next state. -/
structure DemNext where
  out : Option F64
  prev : Cplx
  hasPrev : Bool
  kept : Nat
deriving DecidableEq, Repr

/-- `DemStep(f, n)` (R252); none where it raises NumericAnomaly. -/
def demStep (prev : Cplx) (hasPrev : Bool) (kept : Nat) (f : Cplx) : Option DemNext :=
  if hasPrev then
    (if isFiniteC (demProduct f prev) then
      some ⟨some (angle (demProduct f prev)), f, true, min (kept + 1) 2⟩
    else none)
  else some ⟨none, f, true, min (kept + 1) 2⟩

/-- The demodulator's part of a beat: it runs on a kept sample only (R172). -/
def demOnKept (keep : Bool) (s : State) (f : Cplx) : Option DemNext :=
  if keep then demStep s.demPrev s.demHasPrev s.demKept f
  else some ⟨none, s.demPrev, s.demHasPrev, s.demKept⟩

/-- The stage state of a beat committed at once, and its output enqueued (R172). -/
def commitBeat (x y m : Cplx) (d : DemNext) (s : State) : State :=
  { s with
    dcPx := x
    dcPy := y
    phi := ncoNext s.phi s.wInc
    hist := histPush s.wNtaps.toNat m s.hist
    decCnt := decNext s.decCnt s.wM
    demPrev := d.prev
    demHasPrev := d.hasPrev
    demKept := d.kept
    queue := s.queue ++ d.out.toList
    outCount := if d.out.isSome then s.outCount + 1#64 else s.outCount }

/-- NumericAnomaly of a stage at a beat (R300). -/
def numericAnomaly (stage : BitVec 3) (n : U64) (s : State) : State := raiseFault 4#4 0#4 stage n s

/-- `Process(x, n)` (R172): the first stage in order whose value is not finite is the one reported (R174). -/
def processBeat (x : Cplx) (n : U64) (s : State) : State :=
  let y := dcbStep s.wAlpha s.dcPx s.dcPy x
  if isFiniteC y = false then numericAnomaly 1#3 n s
  else
    let m := ncoMix s.phi y
    if isFiniteC m = false then numericAnomaly 2#3 n s
    else
      let f := firOut (tapRead s.taps) s.wNtaps.toNat s.hist m
      if isFiniteC f = false then numericAnomaly 3#3 n s
      else
        match demOnKept (decKeep s.decCnt) s f with
        | none => numericAnomaly 5#3 n s
        | some d => commitBeat x y m d s

/-- The beat's handshake: IN_COUNT rises by one, modulo 2^64, whatever becomes of the beat (R170, R174). -/
def countBeat (s : State) : State := { s with inCount := s.inCount + 1#64, result := .accepted }

/-- An accepted input beat (R170). -/
def acceptBeat (x : Cplx) (s : State) : State := processBeat x s.inCount (countBeat s)

end Sys2Proof.Machine
end

