-- ==== Sys2Proof/Machine/Commands.lean ====
section
/-! DEFINITION. The commands (41_commands.md) and the write of CMD that carries them (40_bus_access.md rule R105). -/

namespace Sys2Proof.Machine

/-- A failed check of `CheckConfig`: DETAIL and the index it reports (R153). -/
structure ConfigFailure where
  detail : BitVec 4
  index : U64
deriving DecidableEq, Repr

/-- The lowest tap index below `n` whose tap is not finite (R153 check 7). -/
def firstBadTap (m : Memory) (n : Nat) : Option Nat := (List.range n).find? fun k => !isFinite64 (tapRead m k)

/-- `CheckConfig()` (R153): the first check that fails, or the reduced increment. -/
def checkConfig (s : State) : Except ConfigFailure F64 :=
  if s.sampleRate = 0#32 then .error ⟨1#4, 0#64⟩
  else if s.decimM = 0#32 then .error ⟨2#4, 0#64⟩
  else if s.firNtaps = 0#32 ∨ s.build.tapDepth < s.firNtaps.toNat then .error ⟨3#4, 0#64⟩
  else if (lt64 zero64 s.dcAlpha && lt64 s.dcAlpha one64) = false then .error ⟨4#4, 0#64⟩
  else if isFinite64 s.mixFreq = false then .error ⟨5#4, 0#64⟩
  else if isFinite64 (incRaw s.mixFreq s.sampleRate) = false then .error ⟨6#4, 0#64⟩
  else
    match firstBadTap s.taps s.firNtaps.toNat with
    | some k => .error ⟨7#4, BitVec.ofNat 64 k⟩
    | none => .ok (incReduced s.mixFreq s.sampleRate)

/-- What START does before its checks: Q, the counters and the error registers cleared, every stage cleared (R152). -/
def startClear (s : State) : State :=
  clearStages allStages
    { s with queue := [], inCount := 0#64, outCount := 0#64, errCause := ⟨0#4, 0#4, 0#3⟩, errIndex := 0#64 }

/-- What START does when every check passes: the working configuration is latched and the run begins (R152). -/
def startRun (inc : F64) (s : State) : State :=
  { s with
    wAlpha := s.dcAlpha
    wNtaps := s.firNtaps
    wM := s.decimM
    wInc := inc
    outRate := s.sampleRate / s.decimM
    rateInexact := decide (s.sampleRate % s.decimM ≠ 0#32)
    firGain := firGainSum (tapRead s.taps) s.firNtaps.toNat
    runState := .run }

/-- NOP (R150): nothing, OKAY in every STATE. -/
def execNop (s : State) : Host.Outcome State Fault Refusal := .next (answerWrite s)

/-- START (R152): refused in RUN; otherwise OKAY, also when a check fails and ConfigurationError is raised. -/
def execStart (s : State) : Host.Outcome State Fault Refusal :=
  if s.runState = .run then .next (refuseWrite s)
  else
    match checkConfig (startClear s) with
    | .error e => .next (answerWrite (raiseFault 1#4 e.detail 0#3 e.index (startClear s)))
    | .ok inc => .next (answerWrite (startRun inc (startClear s)))

/-- EOS (R158): refused outside RUN; InsufficientData when fewer than two samples reached the demodulator. -/
def execEos (s : State) : Host.Outcome State Fault Refusal :=
  if s.runState = .run then
    (if s.demKept < 2 then .next (answerWrite (raiseFault 3#4 0#4 5#3 s.inCount s))
    else .next (answerWrite { s with runState := .done, irqStatus := setDone s.irqStatus }))
  else .next (refuseWrite s)

/-- ABORT (R160), in every STATE. -/
def execAbort (s : State) : Host.Outcome State Fault Refusal :=
  .next (answerWrite
    { s with runState := .idle, queue := [], errCause := ⟨0#4, 0#4, 0#3⟩, errIndex := 0#64 })

/-- STAGE_RESET (R162), in every STATE. -/
def execStageReset (smask : BitVec 5) (s : State) : Host.Outcome State Fault Refusal :=
  .next (answerWrite (clearStages smask s))

/-- An illegal command word (R88): SLVERR, nothing changes. -/
def execCmdIllegal (_word : U32) (s : State) : Host.Outcome State Fault Refusal := .next (refuseWrite s)

/-- WR CMD (R105): the command of the word runs inside this write. -/
def execWrCmd (wdata : U32) (s : State) : Host.Outcome State Fault Refusal :=
  match decodeCommand wdata with
  | .nop => execNop s
  | .start => execStart s
  | .eos => execEos s
  | .abort => execAbort s
  | .stageReset smask => execStageReset smask s
  | .illegal word => execCmdIllegal word s

end Sys2Proof.Machine
end

