-- ==== Sys2Proof/Machine/Ports.lean ====
section
/-! DEFINITION. The sample ports (42_stream_ports.md rules R170 and R176). -/

namespace Sys2Proof.Machine

/-- IN_BEAT (R170): with IN_READY the beat is accepted and processed; otherwise it waits. A working length above
TAP_DEPTH, which START never latches (R153), has no taps to read. -/
def execInBeat (i q : F64) (s : State) : Host.Outcome State Fault Refusal :=
  if inReady s then
    (if s.wNtaps.toNat ≤ s.build.tapDepth then .next (acceptBeat ⟨i, q⟩ s)
    else .fault (.tapIndexOutOfRange s.build.tapDepth))
  else .next (keepOffered (.input (i ++ q)) s)

/-- OUT_BEAT (R176): with OUT_AVAIL the oldest value of Q is delivered, in any STATE; otherwise the beat waits. -/
def execOutBeat (s : State) : Host.Outcome State Fault Refusal :=
  match s.queue with
  | v :: rest => .next { s with queue := rest, result := .delivered v }
  | [] => .next (keepOffered .output s)

end Sys2Proof.Machine
end

