-- ==== Sys2Proof/Machine/ReadOnly.lean ====
section
/-! DEFINITION. Writes of the read-only registers (40_bus_access.md rule R101). -/

namespace Sys2Proof.Machine

/-- WR ID, a read-only register: SLVERR, nothing changes (R101). -/
def execWrRoId (_wdata : U32) (s : State) : Host.Outcome State Fault Refusal := .next (refuseWrite s)

/-- WR PARAMS, a read-only register: SLVERR, nothing changes (R101). -/
def execWrRoParams (_wdata : U32) (s : State) : Host.Outcome State Fault Refusal := .next (refuseWrite s)

/-- WR STATUS, a read-only register: SLVERR, nothing changes (R101). -/
def execWrRoStatus (_wdata : U32) (s : State) : Host.Outcome State Fault Refusal := .next (refuseWrite s)

/-- WR ERR_CAUSE, a read-only register: SLVERR, nothing changes (R101). -/
def execWrRoErrCause (_wdata : U32) (s : State) : Host.Outcome State Fault Refusal := .next (refuseWrite s)

/-- WR ERR_INDEX_LO, a read-only register: SLVERR, nothing changes (R101). -/
def execWrRoErrIndexLo (_wdata : U32) (s : State) : Host.Outcome State Fault Refusal := .next (refuseWrite s)

/-- WR ERR_INDEX_HI, a read-only register: SLVERR, nothing changes (R101). -/
def execWrRoErrIndexHi (_wdata : U32) (s : State) : Host.Outcome State Fault Refusal := .next (refuseWrite s)

/-- WR NCO_INC_LO, a read-only register: SLVERR, nothing changes (R101). -/
def execWrRoNcoIncLo (_wdata : U32) (s : State) : Host.Outcome State Fault Refusal := .next (refuseWrite s)

/-- WR NCO_INC_HI, a read-only register: SLVERR, nothing changes (R101). -/
def execWrRoNcoIncHi (_wdata : U32) (s : State) : Host.Outcome State Fault Refusal := .next (refuseWrite s)

/-- WR NCO_PHASE_LO, a read-only register: SLVERR, nothing changes (R101). -/
def execWrRoNcoPhaseLo (_wdata : U32) (s : State) : Host.Outcome State Fault Refusal := .next (refuseWrite s)

/-- WR NCO_PHASE_HI, a read-only register: SLVERR, nothing changes (R101). -/
def execWrRoNcoPhaseHi (_wdata : U32) (s : State) : Host.Outcome State Fault Refusal := .next (refuseWrite s)

/-- WR IN_COUNT_LO, a read-only register: SLVERR, nothing changes (R101). -/
def execWrRoInCountLo (_wdata : U32) (s : State) : Host.Outcome State Fault Refusal := .next (refuseWrite s)

/-- WR IN_COUNT_HI, a read-only register: SLVERR, nothing changes (R101). -/
def execWrRoInCountHi (_wdata : U32) (s : State) : Host.Outcome State Fault Refusal := .next (refuseWrite s)

/-- WR OUT_COUNT_LO, a read-only register: SLVERR, nothing changes (R101). -/
def execWrRoOutCountLo (_wdata : U32) (s : State) : Host.Outcome State Fault Refusal := .next (refuseWrite s)

/-- WR OUT_COUNT_HI, a read-only register: SLVERR, nothing changes (R101). -/
def execWrRoOutCountHi (_wdata : U32) (s : State) : Host.Outcome State Fault Refusal := .next (refuseWrite s)

/-- WR OUT_RATE, a read-only register: SLVERR, nothing changes (R101). -/
def execWrRoOutRate (_wdata : U32) (s : State) : Host.Outcome State Fault Refusal := .next (refuseWrite s)

/-- WR FIR_GAIN_LO, a read-only register: SLVERR, nothing changes (R101). -/
def execWrRoFirGainLo (_wdata : U32) (s : State) : Host.Outcome State Fault Refusal := .next (refuseWrite s)

/-- WR FIR_GAIN_HI, a read-only register: SLVERR, nothing changes (R101). -/
def execWrRoFirGainHi (_wdata : U32) (s : State) : Host.Outcome State Fault Refusal := .next (refuseWrite s)

end Sys2Proof.Machine
end

