-- ==== Sys2Proof/Machine/RegReads.lean ====
section
/-! DEFINITION. Reads of the registers (40_bus_access.md rules R102 to R116 and R122 to R143). -/

namespace Sys2Proof.Machine

/-- RD ID (R102). -/
def execRdId (s : State) : Host.Outcome State Fault Refusal := .next (answerRead idWord s)

/-- RD PARAMS (R103). -/
def execRdParams (s : State) : Host.Outcome State Fault Refusal := .next (answerRead (paramsWord s.build) s)

/-- RD CMD (R104). -/
def execRdCmd (s : State) : Host.Outcome State Fault Refusal := .next (answerRead 0#32 s)

/-- RD STATUS (R106). -/
def execRdStatus (s : State) : Host.Outcome State Fault Refusal := .next (answerRead (statusWord s) s)

/-- RD ERR_CAUSE (R107). -/
def execRdErrCause (s : State) : Host.Outcome State Fault Refusal := .next (answerRead (errCauseWord s.errCause) s)

/-- RD ERR_INDEX_LO (R108). -/
def execRdErrIndexLo (s : State) : Host.Outcome State Fault Refusal := .next (answerRead (lo32 s.errIndex) s)

/-- RD ERR_INDEX_HI (R109). -/
def execRdErrIndexHi (s : State) : Host.Outcome State Fault Refusal := .next (answerRead (hi32 s.errIndex) s)

/-- RD IRQ_STATUS (R111). -/
def execRdIrqStatus (s : State) : Host.Outcome State Fault Refusal := .next (answerRead (irqWord s.irqStatus) s)

/-- RD IRQ_ENABLE (R112). -/
def execRdIrqEnable (s : State) : Host.Outcome State Fault Refusal := .next (answerRead (irqWord s.irqEnable) s)

/-- RD SAMPLE_RATE (R131). -/
def execRdSampleRate (s : State) : Host.Outcome State Fault Refusal := .next (answerRead s.sampleRate s)

/-- RD DECIM_M (R133). -/
def execRdDecimM (s : State) : Host.Outcome State Fault Refusal := .next (answerRead s.decimM s)

/-- RD DC_ALPHA_LO (R135). -/
def execRdDcAlphaLo (s : State) : Host.Outcome State Fault Refusal := .next (answerRead (lo32 s.dcAlpha) s)

/-- RD DC_ALPHA_HI (R137). -/
def execRdDcAlphaHi (s : State) : Host.Outcome State Fault Refusal := .next (answerRead (hi32 s.dcAlpha) s)

/-- RD MIX_FREQ_LO (R139). -/
def execRdMixFreqLo (s : State) : Host.Outcome State Fault Refusal := .next (answerRead (lo32 s.mixFreq) s)

/-- RD MIX_FREQ_HI (R141). -/
def execRdMixFreqHi (s : State) : Host.Outcome State Fault Refusal := .next (answerRead (hi32 s.mixFreq) s)

/-- RD FIR_NTAPS (R143). -/
def execRdFirNtaps (s : State) : Host.Outcome State Fault Refusal := .next (answerRead s.firNtaps s)

/-- RD TAP_ADDR (R116). -/
def execRdTapAddr (s : State) : Host.Outcome State Fault Refusal := .next (answerRead (tapAddrWord s.tapAddr) s)

/-- RD NCO_INC_LO (R114). -/
def execRdNcoIncLo (s : State) : Host.Outcome State Fault Refusal := .next (answerRead (lo32 s.wInc) s)

/-- RD NCO_INC_HI (R115). -/
def execRdNcoIncHi (s : State) : Host.Outcome State Fault Refusal := .next (answerRead (hi32 s.wInc) s)

/-- RD NCO_PHASE_LO: bits 63:32 go to SNAP (R122). -/
def execRdNcoPhaseLo (s : State) : Host.Outcome State Fault Refusal := .next (answerLive s.phi s)

/-- RD NCO_PHASE_HI (R123). -/
def execRdNcoPhaseHi (s : State) : Host.Outcome State Fault Refusal := .next (answerRead s.snap s)

/-- RD IN_COUNT_LO: bits 63:32 go to SNAP (R124). -/
def execRdInCountLo (s : State) : Host.Outcome State Fault Refusal := .next (answerLive s.inCount s)

/-- RD IN_COUNT_HI (R125). -/
def execRdInCountHi (s : State) : Host.Outcome State Fault Refusal := .next (answerRead s.snap s)

/-- RD OUT_COUNT_LO: bits 63:32 go to SNAP (R126). -/
def execRdOutCountLo (s : State) : Host.Outcome State Fault Refusal := .next (answerLive s.outCount s)

/-- RD OUT_COUNT_HI (R127). -/
def execRdOutCountHi (s : State) : Host.Outcome State Fault Refusal := .next (answerRead s.snap s)

/-- RD OUT_RATE (R128). -/
def execRdOutRate (s : State) : Host.Outcome State Fault Refusal := .next (answerRead s.outRate s)

/-- RD FIR_GAIN_LO (R129). -/
def execRdFirGainLo (s : State) : Host.Outcome State Fault Refusal := .next (answerRead (lo32 s.firGain) s)

/-- RD FIR_GAIN_HI (R130). -/
def execRdFirGainHi (s : State) : Host.Outcome State Fault Refusal := .next (answerRead (hi32 s.firGain) s)

end Sys2Proof.Machine
end

