-- ==== Sys2Proof/Machine/RegWrites.lean ====
section
/-! DEFINITION. Writes of the configuration and interrupt registers (40_bus_access.md rules R110, R113 and R132 to R144). -/

namespace Sys2Proof.Machine

/-- WR IRQ_STATUS (R110). -/
def execWrIrqStatus (wdata : U32) (s : State) : Host.Outcome State Fault Refusal :=
  .next (answerWrite { s with irqStatus := clearOnes s.irqStatus (irqBitsOperand wdata) })

/-- WR IRQ_ENABLE (R113). -/
def execWrIrqEnable (wdata : U32) (s : State) : Host.Outcome State Fault Refusal :=
  .next (answerWrite { s with irqEnable := irqBitsOperand wdata })

/-- WR SAMPLE_RATE (R132). -/
def execWrSampleRate (wdata : U32) (s : State) : Host.Outcome State Fault Refusal :=
  .next (answerWrite { s with sampleRate := wdata })

/-- WR DECIM_M (R134). -/
def execWrDecimM (wdata : U32) (s : State) : Host.Outcome State Fault Refusal :=
  .next (answerWrite { s with decimM := wdata })

/-- WR DC_ALPHA_LO (R136). -/
def execWrDcAlphaLo (wdata : U32) (s : State) : Host.Outcome State Fault Refusal :=
  .next (answerWrite { s with dcAlpha := withLo s.dcAlpha wdata })

/-- WR DC_ALPHA_HI (R138). -/
def execWrDcAlphaHi (wdata : U32) (s : State) : Host.Outcome State Fault Refusal :=
  .next (answerWrite { s with dcAlpha := withHi s.dcAlpha wdata })

/-- WR MIX_FREQ_LO (R140). -/
def execWrMixFreqLo (wdata : U32) (s : State) : Host.Outcome State Fault Refusal :=
  .next (answerWrite { s with mixFreq := withLo s.mixFreq wdata })

/-- WR MIX_FREQ_HI (R142). -/
def execWrMixFreqHi (wdata : U32) (s : State) : Host.Outcome State Fault Refusal :=
  .next (answerWrite { s with mixFreq := withHi s.mixFreq wdata })

/-- WR FIR_NTAPS (R144). -/
def execWrFirNtaps (wdata : U32) (s : State) : Host.Outcome State Fault Refusal :=
  .next (answerWrite { s with firNtaps := wdata })

end Sys2Proof.Machine
end

