-- ==== Sys2Proof/Machine/TapAccess.lean ====
section
/-! DEFINITION. The tap RAM's access registers (40_bus_access.md rules R117 to R121). An index at or above TAP_DEPTH,
which TAP_ADDR never holds after reset (R36), has no entry and stops the access. -/

namespace Sys2Proof.Machine

/-- WR TAP_ADDR (R117): refused in RUN and for an index out of range; WDATA[31:16] is ignored. -/
def execWrTapAddr (wdata : U32) (s : State) : Host.Outcome State Fault Refusal :=
  if s.runState = .run then .next (refuseWrite s)
  else if s.build.tapDepth ≤ (tapIndexOperand wdata).toNat then .next (refuseWrite s)
  else .next (answerWrite { s with tapAddr := tapIndexOperand wdata })

/-- WR TAP_DATA_LO (R118): refused in RUN. -/
def execWrTapDataLo (wdata : U32) (s : State) : Host.Outcome State Fault Refusal :=
  if s.runState = .run then .next (refuseWrite s)
  else .next (answerWrite { s with tapWlo := wdata })

/-- RD TAP_DATA_LO (R119): bits 63:32 of the entry go to TAP_RHI. -/
def execRdTapDataLo (s : State) : Host.Outcome State Fault Refusal :=
  if s.tapAddr.toNat < s.build.tapDepth then
    .next (answerRead (lo32 (tapRead s.taps s.tapAddr.toNat))
      { s with tapRhi := hi32 (tapRead s.taps s.tapAddr.toNat) })
  else .fault (.tapIndexOutOfRange s.tapAddr.toNat)

/-- WR TAP_DATA_HI (R120): refused in RUN; otherwise the entry takes all 64 bits and TAP_ADDR advances. -/
def execWrTapDataHi (wdata : U32) (s : State) : Host.Outcome State Fault Refusal :=
  if s.runState = .run then .next (refuseWrite s)
  else if s.tapAddr.toNat < s.build.tapDepth then
    .next (answerWrite
      { s with
        taps := tapWrite s.taps s.tapAddr.toNat (pair64 wdata s.tapWlo)
        tapAddr := nextTapAddr s.build.tapDepth s.tapAddr })
  else .fault (.tapIndexOutOfRange s.tapAddr.toNat)

/-- RD TAP_DATA_HI (R121): TAP_RHI is returned and TAP_ADDR advances, in every STATE. -/
def execRdTapDataHi (s : State) : Host.Outcome State Fault Refusal :=
  .next (answerRead s.tapRhi { s with tapAddr := nextTapAddr s.build.tapDepth s.tapAddr })

end Sys2Proof.Machine
end

