-- ==== Sys2Proof/Machine/Dispatch.lean ====
section
/-! DEFINITION. The dispatch: one direct call of a meaning per row of the opcode table. -/

namespace Sys2Proof.Machine

/-- What a transaction does, in the table's order. -/
def exec (i : Instr) (s : State) : Host.Outcome State Fault Refusal :=
  match i with
  | .wrBadstrb0000 addr wdata => Sys2Proof.Machine.execWrBadstrb0000 addr wdata s
  | .wrBadstrb0001 addr wdata => Sys2Proof.Machine.execWrBadstrb0001 addr wdata s
  | .wrBadstrb0010 addr wdata => Sys2Proof.Machine.execWrBadstrb0010 addr wdata s
  | .wrBadstrb0011 addr wdata => Sys2Proof.Machine.execWrBadstrb0011 addr wdata s
  | .wrBadstrb0100 addr wdata => Sys2Proof.Machine.execWrBadstrb0100 addr wdata s
  | .wrBadstrb0101 addr wdata => Sys2Proof.Machine.execWrBadstrb0101 addr wdata s
  | .wrBadstrb0110 addr wdata => Sys2Proof.Machine.execWrBadstrb0110 addr wdata s
  | .wrBadstrb0111 addr wdata => Sys2Proof.Machine.execWrBadstrb0111 addr wdata s
  | .wrBadstrb1000 addr wdata => Sys2Proof.Machine.execWrBadstrb1000 addr wdata s
  | .wrBadstrb1001 addr wdata => Sys2Proof.Machine.execWrBadstrb1001 addr wdata s
  | .wrBadstrb1010 addr wdata => Sys2Proof.Machine.execWrBadstrb1010 addr wdata s
  | .wrBadstrb1011 addr wdata => Sys2Proof.Machine.execWrBadstrb1011 addr wdata s
  | .wrBadstrb1100 addr wdata => Sys2Proof.Machine.execWrBadstrb1100 addr wdata s
  | .wrBadstrb1101 addr wdata => Sys2Proof.Machine.execWrBadstrb1101 addr wdata s
  | .wrBadstrb1110 addr wdata => Sys2Proof.Machine.execWrBadstrb1110 addr wdata s
  | .rdMisaligned1 addr => Sys2Proof.Machine.execRdMisaligned1 addr s
  | .wrMisaligned1 addr wdata => Sys2Proof.Machine.execWrMisaligned1 addr wdata s
  | .rdMisaligned2 addr => Sys2Proof.Machine.execRdMisaligned2 addr s
  | .wrMisaligned2 addr wdata => Sys2Proof.Machine.execWrMisaligned2 addr wdata s
  | .rdMisaligned3 addr => Sys2Proof.Machine.execRdMisaligned3 addr s
  | .wrMisaligned3 addr wdata => Sys2Proof.Machine.execWrMisaligned3 addr wdata s
  | .rdId => Sys2Proof.Machine.execRdId s
  | .wrRoId wdata => Sys2Proof.Machine.execWrRoId wdata s
  | .rdParams => Sys2Proof.Machine.execRdParams s
  | .wrRoParams wdata => Sys2Proof.Machine.execWrRoParams wdata s
  | .rdCmd => Sys2Proof.Machine.execRdCmd s
  | .wrCmd wdata => Sys2Proof.Machine.execWrCmd wdata s
  | .rdStatus => Sys2Proof.Machine.execRdStatus s
  | .wrRoStatus wdata => Sys2Proof.Machine.execWrRoStatus wdata s
  | .rdErrCause => Sys2Proof.Machine.execRdErrCause s
  | .wrRoErrCause wdata => Sys2Proof.Machine.execWrRoErrCause wdata s
  | .rdErrIndexLo => Sys2Proof.Machine.execRdErrIndexLo s
  | .wrRoErrIndexLo wdata => Sys2Proof.Machine.execWrRoErrIndexLo wdata s
  | .rdErrIndexHi => Sys2Proof.Machine.execRdErrIndexHi s
  | .wrRoErrIndexHi wdata => Sys2Proof.Machine.execWrRoErrIndexHi wdata s
  | .rdIrqStatus => Sys2Proof.Machine.execRdIrqStatus s
  | .wrIrqStatus wdata => Sys2Proof.Machine.execWrIrqStatus wdata s
  | .rdIrqEnable => Sys2Proof.Machine.execRdIrqEnable s
  | .wrIrqEnable wdata => Sys2Proof.Machine.execWrIrqEnable wdata s
  | .rdSampleRate => Sys2Proof.Machine.execRdSampleRate s
  | .wrSampleRate wdata => Sys2Proof.Machine.execWrSampleRate wdata s
  | .rdDecimM => Sys2Proof.Machine.execRdDecimM s
  | .wrDecimM wdata => Sys2Proof.Machine.execWrDecimM wdata s
  | .rdDcAlphaLo => Sys2Proof.Machine.execRdDcAlphaLo s
  | .wrDcAlphaLo wdata => Sys2Proof.Machine.execWrDcAlphaLo wdata s
  | .rdDcAlphaHi => Sys2Proof.Machine.execRdDcAlphaHi s
  | .wrDcAlphaHi wdata => Sys2Proof.Machine.execWrDcAlphaHi wdata s
  | .rdMixFreqLo => Sys2Proof.Machine.execRdMixFreqLo s
  | .wrMixFreqLo wdata => Sys2Proof.Machine.execWrMixFreqLo wdata s
  | .rdMixFreqHi => Sys2Proof.Machine.execRdMixFreqHi s
  | .wrMixFreqHi wdata => Sys2Proof.Machine.execWrMixFreqHi wdata s
  | .rdFirNtaps => Sys2Proof.Machine.execRdFirNtaps s
  | .wrFirNtaps wdata => Sys2Proof.Machine.execWrFirNtaps wdata s
  | .rdTapAddr => Sys2Proof.Machine.execRdTapAddr s
  | .wrTapAddr wdata => Sys2Proof.Machine.execWrTapAddr wdata s
  | .rdTapDataLo => Sys2Proof.Machine.execRdTapDataLo s
  | .wrTapDataLo wdata => Sys2Proof.Machine.execWrTapDataLo wdata s
  | .rdTapDataHi => Sys2Proof.Machine.execRdTapDataHi s
  | .wrTapDataHi wdata => Sys2Proof.Machine.execWrTapDataHi wdata s
  | .rdNcoIncLo => Sys2Proof.Machine.execRdNcoIncLo s
  | .wrRoNcoIncLo wdata => Sys2Proof.Machine.execWrRoNcoIncLo wdata s
  | .rdNcoIncHi => Sys2Proof.Machine.execRdNcoIncHi s
  | .wrRoNcoIncHi wdata => Sys2Proof.Machine.execWrRoNcoIncHi wdata s
  | .rdNcoPhaseLo => Sys2Proof.Machine.execRdNcoPhaseLo s
  | .wrRoNcoPhaseLo wdata => Sys2Proof.Machine.execWrRoNcoPhaseLo wdata s
  | .rdNcoPhaseHi => Sys2Proof.Machine.execRdNcoPhaseHi s
  | .wrRoNcoPhaseHi wdata => Sys2Proof.Machine.execWrRoNcoPhaseHi wdata s
  | .rdInCountLo => Sys2Proof.Machine.execRdInCountLo s
  | .wrRoInCountLo wdata => Sys2Proof.Machine.execWrRoInCountLo wdata s
  | .rdInCountHi => Sys2Proof.Machine.execRdInCountHi s
  | .wrRoInCountHi wdata => Sys2Proof.Machine.execWrRoInCountHi wdata s
  | .rdOutCountLo => Sys2Proof.Machine.execRdOutCountLo s
  | .wrRoOutCountLo wdata => Sys2Proof.Machine.execWrRoOutCountLo wdata s
  | .rdOutCountHi => Sys2Proof.Machine.execRdOutCountHi s
  | .wrRoOutCountHi wdata => Sys2Proof.Machine.execWrRoOutCountHi wdata s
  | .rdOutRate => Sys2Proof.Machine.execRdOutRate s
  | .wrRoOutRate wdata => Sys2Proof.Machine.execWrRoOutRate wdata s
  | .rdFirGainLo => Sys2Proof.Machine.execRdFirGainLo s
  | .wrRoFirGainLo wdata => Sys2Proof.Machine.execWrRoFirGainLo wdata s
  | .rdFirGainHi => Sys2Proof.Machine.execRdFirGainHi s
  | .wrRoFirGainHi wdata => Sys2Proof.Machine.execWrRoFirGainHi wdata s
  | .rdUnmapped014 => Sys2Proof.Machine.execRdUnmapped014 s
  | .wrUnmapped014 wdata => Sys2Proof.Machine.execWrUnmapped014 wdata s
  | .rdUnmapped074 => Sys2Proof.Machine.execRdUnmapped074 s
  | .wrUnmapped074 wdata => Sys2Proof.Machine.execWrUnmapped074 wdata s
  | .rdUnmappedHiB7 addr => Sys2Proof.Machine.execRdUnmappedHiB7 addr s
  | .wrUnmappedHiB7 addr wdata => Sys2Proof.Machine.execWrUnmappedHiB7 addr wdata s
  | .rdUnmappedHiB8 addr => Sys2Proof.Machine.execRdUnmappedHiB8 addr s
  | .wrUnmappedHiB8 addr wdata => Sys2Proof.Machine.execWrUnmappedHiB8 addr wdata s
  | .rdUnmappedHiB9 addr => Sys2Proof.Machine.execRdUnmappedHiB9 addr s
  | .wrUnmappedHiB9 addr wdata => Sys2Proof.Machine.execWrUnmappedHiB9 addr wdata s
  | .rdUnmappedHiB10 addr => Sys2Proof.Machine.execRdUnmappedHiB10 addr s
  | .wrUnmappedHiB10 addr wdata => Sys2Proof.Machine.execWrUnmappedHiB10 addr wdata s
  | .rdUnmappedHiB11 addr => Sys2Proof.Machine.execRdUnmappedHiB11 addr s
  | .wrUnmappedHiB11 addr wdata => Sys2Proof.Machine.execWrUnmappedHiB11 addr wdata s
  | .nop => Sys2Proof.Machine.execNop s
  | .start => Sys2Proof.Machine.execStart s
  | .eos => Sys2Proof.Machine.execEos s
  | .abort => Sys2Proof.Machine.execAbort s
  | .stageReset smask => Sys2Proof.Machine.execStageReset smask s
  | .cmdIllegal word => Sys2Proof.Machine.execCmdIllegal word s
  | .inBeat ivalue qvalue => Sys2Proof.Machine.execInBeat ivalue qvalue s
  | .outBeat => Sys2Proof.Machine.execOutBeat s

end Sys2Proof.Machine
end

