-- ==== Sys2Proof/Machine/Perform.lean ====
section
/-! DEFINITION. What one event of the host does to the block (00_scope.md rule R6). -/

namespace Sys2Proof.Machine

/-- An event performed: the meaning of the transaction it decodes to, or reset. -/
def performEvent (e : Event) (s : State) : Host.Outcome State Fault Refusal :=
  match e with
  | .txn t => exec (decode t) s
  | .reset => .next (takeReset s)

end Sys2Proof.Machine
end

