-- ==== Sys2Proof/Machine/Step.lean ====
section
/-! DEFINITION. One step of the block: one transaction, or reset, of those the host offers (00_scope.md rule R6). -/

namespace Sys2Proof.Machine

/-- One step. With nothing offered the block does nothing and keeps its state (R319). -/
def step (s : State) : Host.Outcome State Fault Refusal :=
  match nextEvent s with
  | none => .next s
  | some (e, rest) => performEvent e { s with offered := rest }

/-- The state with the transaction of a table word as the one offered event, so that the next step runs it. Bits that
are no transaction offer nothing. -/
def State.withFetchWord (s : State) (nbits w : Nat) : State :=
  match txnOfTableWord nbits w with
  | .ok t => { s with offered := [.txn t] }
  | .error _ => s

end Sys2Proof.Machine
end

