-- ==== Sys2Proof/Safety.lean ====
section
/-! DEFINITION. What a sound state of the block is: the facts the spec says hold of every state after reset, in the
terms the statements use. -/

namespace Sys2Proof.Safety

open Sys2Proof.Machine

/-- The values the fault procedure writes to ERR_CAUSE (R300): ConfigurationError with a detail of 1 to 7 and no
stage, InsufficientData at DEM, or NumericAnomaly at DCB, NCO, FIR or DEM. -/
def legalErrCause (e : ErrCause) : Bool :=
  (e.cause == 1#4 && decide (1 ≤ e.detail.toNat ∧ e.detail.toNat ≤ 7) && e.stage == 0#3) ||
    (e == ⟨3#4, 0#4, 5#3⟩) ||
    (e.cause == 4#4 && e.detail == 0#4 && (e.stage == 1#3 || e.stage == 2#3 || e.stage == 3#3 || e.stage == 5#3))

/-- What holds at reset and after every step. -/
structure Inv (s : State) : Prop where
  /-- The parameters are in their legal ranges (R8). -/
  buildLegal : s.build.legal = true
  /-- The tap RAM's image keeps its one form, inside the RAM (R60). -/
  tapsWf : s.taps.wf s.build.tapDepth = true
  /-- TAP_ADDR is always in 0 to TAP_DEPTH−1 (R36). -/
  tapAddrInRange : s.tapAddr.toNat < s.build.tapDepth
  /-- Q holds at most OUT_FIFO_DEPTH values (R51). -/
  queueFits : s.queue.length ≤ s.build.outFifoDepth
  /-- Every value of Q is in [-PI64, PI64] (R251). -/
  queueInPiRange : ∀ v ∈ s.queue, inPiRange v = true
  /-- Q is empty in IDLE and in FAULT: reset, ABORT and the fault procedure flush it (R51). -/
  queueEmpty : s.runState = .idle ∨ s.runState = .fault → s.queue = []
  /-- The working length is at most TAP_DEPTH (R40, R153 check 3), and at least 1 in a run. -/
  ntapsFits : s.wNtaps.toNat ≤ s.build.tapDepth
  ntapsInRun : s.runState = .run → 1 ≤ s.wNtaps.toNat
  /-- In a run every tap the FIR uses is finite (R153 check 7). -/
  tapsFinite : s.runState = .run → ∀ k, k < s.wNtaps.toNat → isFinite64 (tapRead s.taps k) = true
  /-- DEC_CNT is in 0 to W_M−1 (R49). -/
  decCntInRange : s.decCnt.toNat < s.wM.toNat
  /-- HIST entries at W_NTAPS−1 and beyond are CZERO (R48), and the list is the one for its content. -/
  histFits : s.hist.length ≤ s.wNtaps.toNat - 1
  histTrimmed : histTrim s.hist = s.hist
  /-- The stage state is finite whenever a beat is processed (R175). -/
  dcFinite : isFiniteC s.dcPx = true ∧ isFiniteC s.dcPy = true
  histFinite : ∀ z ∈ s.hist, isFiniteC z = true
  demFinite : isFiniteC s.demPrev = true
  alphaFinite : isFinite64 s.wAlpha = true
  alphaInRun : s.runState = .run → (lt64 zero64 s.wAlpha && lt64 s.wAlpha one64) = true
  /-- DEM_KEPT is 0, 1 or 2, and DEM_HAS_PREV says whether it is other than 0 (R50). -/
  demKeptRange : s.demKept ≤ 2
  demHasPrevAgrees : s.demHasPrev = decide (s.demKept ≠ 0)
  /-- Outside FAULT there is no error reported; in FAULT there is one of R300's (R27, U11). -/
  errClear : s.runState ≠ .fault → s.errCause = ⟨0#4, 0#4, 0#3⟩ ∧ s.errIndex = 0#64
  errLegal : s.runState = .fault → legalErrCause s.errCause = true

/-- PHI and the working increment are in [-PI64, PI64] (R38, R47). -/
def PhaseInRange (s : State) : Prop := inPiRange s.phi = true ∧ inPiRange s.wInc = true

/-- `ceil(n / m)`. -/
def ceilDiv (n m : Nat) : Nat := (n + m - 1) / m

/-- The counting facts of a run without STAGE_RESET of DEC or DEM (R178, R241): after n accepted beats, DEC_CNT is the
place of the next FIR output in its group, ceil(n / W_M) samples were kept, and all but the first gave an output; after
a successful EOS there is at least one output. -/
def CountsAgree (s : State) : Prop :=
  (s.runState = .run →
    1 ≤ s.wM.toNat ∧ s.decCnt.toNat = s.inCount.toNat % s.wM.toNat ∧
      s.demKept = min (ceilDiv s.inCount.toNat s.wM.toNat) 2 ∧
      s.demHasPrev = decide (s.demKept ≠ 0) ∧
      s.outCount.toNat = ceilDiv s.inCount.toNat s.wM.toNat - 1) ∧
  (s.runState = .done →
    s.outCount.toNat = ceilDiv s.inCount.toNat s.wM.toNat - 1 ∧ 1 ≤ s.outCount.toNat)

/-- A bus access: every transaction but the two beats (R80). -/
def isBusAccess : Instr → Bool
  | .inBeat _ _ => false
  | .outBeat => false
  | _ => true

/-- The response of a completed bus access is SLVERR. -/
def isSlverr : Result → Bool
  | .read _ .slverr => true
  | .written .slverr => true
  | _ => false

/-- The instruction is a write of CMD with this command, in either of its two table forms (R86, R105). -/
def runsCommand (c : Command) : Instr → Bool
  | .wrCmd w => decodeCommand w == c
  | .nop => c == .nop
  | .start => c == .start
  | .eos => c == .eos
  | .abort => c == .abort
  | .stageReset m => c == .stageReset m
  | .cmdIllegal w => c == .illegal w
  | _ => false

/-- The offsets of the registers in the window (10_state.md rule R22). -/
def mappedOffsets : List Nat :=
  [0x000, 0x004, 0x008, 0x00C, 0x010, 0x018, 0x01C, 0x020, 0x024, 0x028, 0x02C, 0x030, 0x034, 0x038, 0x03C, 0x040,
    0x044, 0x048, 0x04C, 0x050, 0x054, 0x058, 0x05C, 0x060, 0x064, 0x068, 0x06C, 0x070, 0x078, 0x07C]

/-- The offsets of the read-only registers (R22, R101). -/
def readOnlyOffsets : List Nat :=
  [0x000, 0x004, 0x00C, 0x010, 0x018, 0x01C, 0x050, 0x054, 0x058, 0x05C, 0x060, 0x064, 0x068, 0x06C, 0x070, 0x078,
    0x07C]

/-- The table of R302: the bus accesses that are answered with SLVERR, from the raw request and the state. -/
def refusedAccess (we : Bool) (addr : BitVec 12) (strb : BitVec 4) (wdata : U32) (s : State) : Prop :=
  (we = true ∧ strb ≠ 0b1111#4) ∨
    addr.toNat % 4 ≠ 0 ∨
    addr.toNat ∉ mappedOffsets ∨
    (we = true ∧ addr.toNat ∈ readOnlyOffsets) ∨
    (we = true ∧ addr.toNat = 0x008 ∧
      (illegalWord wdata = true ∨ (wdata = 1#32 ∧ s.runState = .run) ∨ (wdata = 2#32 ∧ s.runState ≠ .run))) ∨
    (we = true ∧ addr.toNat = 0x044 ∧ (s.runState = .run ∨ s.build.tapDepth ≤ wdata.toNat % 2 ^ 16)) ∨
    (we = true ∧ (addr.toNat = 0x048 ∨ addr.toNat = 0x04C) ∧ s.runState = .run)

/-- A refused access leaves all but the result as it was; its read data is 0 (R81). -/
def refused (we : Bool) (s : State) : State :=
  { s with result := if we then .written .slverr else .read 0#32 .slverr }

/-- START's check `d` of the table of R153 fails. -/
def checkFails (s : State) : Nat → Prop
  | 1 => s.sampleRate = 0#32
  | 2 => s.decimM = 0#32
  | 3 => s.firNtaps = 0#32 ∨ s.build.tapDepth < s.firNtaps.toNat
  | 4 => ¬(lt64 zero64 s.dcAlpha = true ∧ lt64 s.dcAlpha one64 = true)
  | 5 => isFinite64 s.mixFreq = false
  | 6 => isFinite64 (incRaw s.mixFreq s.sampleRate) = false
  | 7 => ∃ k, k < s.firNtaps.toNat ∧ isFinite64 (tapRead s.taps k) = false
  | _ => False

/-- The index R153 reports with check `d`: for check 7 the least tap that is not finite, for the others 0. -/
def checkIndex (s : State) (d k : Nat) : Prop :=
  if d = 7 then
    k < s.firNtaps.toNat ∧ isFinite64 (tapRead s.taps k) = false ∧
      ∀ j, j < k → isFinite64 (tapRead s.taps j) = true
  else k = 0

/-- The state with every stage cleared, as START leaves it (R152, R164). -/
def withStagesClear (s : State) : State :=
  { s with
    dcPx := czero
    dcPy := czero
    phi := zero64
    hist := []
    decCnt := 0#32
    demPrev := czero
    demHasPrev := false
    demKept := 0 }

/-- The state the fault procedure leaves (R305), with the cause's three fields and the index. -/
def faulted (cause detail : BitVec 4) (stage : BitVec 3) (index : U64) (s : State) : State :=
  { s with
    runState := .fault
    errCause := ⟨cause, detail, stage⟩
    errIndex := index
    queue := []
    irqStatus := s.irqStatus ||| 0b10#2 }

/-- `r` is the real value `num / den`, in units of 2^-1074, rounded to nearest, ties to even (R10): finite below the
middle between the greatest finite value and 2^1024, and then no finite value is nearer and one as near means that the
fraction of `r` is even; otherwise the infinity of its sign. -/
def IsNearestEven (r : F64) (num : Int) (den : Nat) : Prop :=
  (isFinite64 r = true ↔ 2 * num.natAbs < (2 ^ 54 - 1) * 2 ^ 2045 * den) ∧
  (isFinite64 r = false → r = signedInf (decide (num < 0))) ∧
  (isFinite64 r = true →
    ∀ v : F64, isFinite64 v = true →
      (units64 r * den - num).natAbs ≤ (units64 v * den - num).natAbs ∧
      ((units64 r * den - num).natAbs = (units64 v * den - num).natAbs → units64 v ≠ units64 r → r.toNat % 2 = 0))

/-- The five reads with a side effect (R65). -/
def sideEffectReads : List Instr := [.rdTapDataLo, .rdTapDataHi, .rdNcoPhaseLo, .rdInCountLo, .rdOutCountLo]

/-- The mask names DEC or DEM (R87). -/
def namesDecOrDem (mask : BitVec 5) : Bool := mask.getLsbD 3 || mask.getLsbD 4

/-- The event is a STAGE_RESET of DEC or DEM, in either of its two table forms (R86, R162). -/
def clearsDecOrDem : Event → Bool
  | .reset => false
  | .txn t =>
    match decode t with
    | .stageReset mask => namesDecOrDem mask
    | .wrCmd w => (match decodeCommand w with | .stageReset mask => namesDecOrDem mask | _ => false)
    | _ => false

/-- The event is a transaction that runs this command. -/
def eventRuns (c : Command) : Event → Bool
  | .reset => false
  | .txn t => runsCommand c (decode t)

/-- An input beat. -/
def isInBeat : Instr → Bool
  | .inBeat _ _ => true
  | _ => false

/-- The event is an input beat. -/
def isInputBeat : Event → Bool
  | .reset => false
  | .txn t => isInBeat (decode t)

/-- The event is a bus access that decodes to this instruction. -/
def eventIs (i : Instr) : Event → Bool
  | .reset => false
  | .txn t => decode t == i

end Sys2Proof.Safety
end

