-- ==== Sys2Proof/Certificates/Slice0/Obligations.lean ====
section
/-! DEFINITION. The statements for the provers, in the order of OBLIGATIONS.json. A record update says its frame
whole: every field it does not name is as before, the tap RAM's bytes included. -/

open Sys2Proof Sys2Proof.Machine Sys2Proof.Safety

/-! Encoding -/

/-- R80, R82, R86: the decoder reads from the encoder's transaction the instruction itself. -/
def Obligations.DecodeEncodeAgree : Prop := ∀ i : Instr, i.wellFormed = true → decode (encode i) = i

/-- R80, R63, R82: whatever the interface carries decodes to a well-formed instruction, whose encoding is the
transaction itself, up to the strobes and data a read ignores. -/
def Obligations.EncodeDecodeAgree : Prop :=
  ∀ t : Txn, (decode t).wellFormed = true ∧ encode (decode t) = t.normalise

/-- R82: of the table's BUS rows a bus access matches, the row of lowest priority is the instruction's. -/
def Obligations.DecodeFollowsTheTable : Prop :=
  ∀ (t : Txn) (key : BitVec 17), t.key = some key → busRowName key = some (decode t).mnemonic

/-- R80, R82, R86: words written out from the spec's encodings, one for each family. How a table word stands for a
whole transaction (its width tells the format, a bus key travels with write data 0, an output beat has no bits) is the
model's own choice (log entry 3). -/
def Obligations.WordsDecode : Prop :=
  decodeTableWord 24 0x0F000 = some .rdId ∧
    decodeTableWord 24 0x1F000 = some (.wrRoId 0#32) ∧
    decodeTableWord 24 0x1F008 = some (.wrCmd 0#32) ∧
    decodeTableWord 24 0x0F04C = some .rdTapDataHi ∧
    decodeTableWord 24 0x13028 = some (.wrBadstrb0011 0x028#12 0#32) ∧
    decodeTableWord 24 0x11014 = some (.wrBadstrb0001 0x014#12 0#32) ∧
    decodeTableWord 24 0x1F029 = some (.wrMisaligned1 0x029#12 0#32) ∧
    decodeTableWord 24 0x0F014 = some .rdUnmapped014 ∧
    decodeTableWord 24 0x0F080 = some (.rdUnmappedHiB7 0x080#12) ∧
    decodeTableWord 32 0x00000001 = some .start ∧
    decodeTableWord 32 0x00000204 = some (.stageReset 0b00010#5) ∧
    decodeTableWord 32 0x00000100 = some (.cmdIllegal 0x00000100#32) ∧
    decodeTableWord 128 0x3FF00000000000004000000000000000 =
      some (.inBeat 0x3FF0000000000000#64 0x4000000000000000#64) ∧
    decodeTableWord 0 0 = some .outBeat

/-- R88: which command words are illegal, and that a write of one is refused and changes nothing. -/
def Obligations.IllegalCommandWordRefused : Prop :=
  ∀ (w : U32) (s : State),
    (decodeCommand w = .illegal w ↔
      (0x05 ≤ (w.extractLsb' 0 8).toNat ∨ w.extractLsb' 13 19 ≠ 0#19 ∨
        ((w.extractLsb' 0 8).toNat ≤ 0x03 ∧ w.extractLsb' 8 5 ≠ 0#5))) ∧
      (decodeCommand w = .illegal w →
        exec (.wrCmd w) s = .next { s with result := .written .slverr } ∧
          exec (.cmdIllegal w) s = .next { s with result := .written .slverr })

/-! The step -/

/-- R6: the model's own schedule and placing of a program (log entries 1 and 3). The first offered transaction, when
the block can perform it, is decoded and run on the state that no longer offers it, and nothing else happens; so the
very next step runs the instruction of a table word that was placed. -/
def Obligations.StepRunsDecodedTransaction : Prop :=
  (∀ (s : State) (t : Txn) (rest : List Event), s.offered = .txn t :: rest → canPerform s (.txn t) = true →
    step s = exec (decode t) { s with offered := rest }) ∧
  ∀ (s : State) (nbits w : Nat) (i : Instr), decodeTableWord nbits w = some i →
    step (s.withFetchWord nbits w) = exec i { s with offered := [] }

/-- R67: the model's own schedule (log entry 1). The block takes the first offered event it can perform, whatever it
cannot perform yet stays offered in its place, and with nothing it can perform it keeps its state. -/
def Obligations.StepTakesFirstReadyEvent : Prop :=
  ∀ s : State,
    (∀ (pre post : List Event) (e : Event), s.offered = pre ++ e :: post → (∀ x ∈ pre, canPerform s x = false) →
      canPerform s e = true → step s = performEvent e { s with offered := pre ++ post }) ∧
    ((∀ x ∈ s.offered, canPerform s x = false) → step s = .next s)

/-! Accesses that are refused -/

/-- R63, R82 item 1: a write whose strobes are not all 1 is refused, at any offset and in any state. -/
def Obligations.PartialStrobeRefused : Prop :=
  (∀ (addr : BitVec 12) (strb : BitVec 4) (w : U32) (s : State), strb ≠ 0b1111#4 →
    exec (decode (.bus true addr strb w)) s = .next { s with result := .written .slverr }) ∧
  ∀ (addr : BitVec 12) (w : U32) (s : State),
    ∀ i ∈ [Instr.wrBadstrb0000 addr w, .wrBadstrb0001 addr w, .wrBadstrb0010 addr w, .wrBadstrb0011 addr w,
        .wrBadstrb0100 addr w, .wrBadstrb0101 addr w, .wrBadstrb0110 addr w, .wrBadstrb0111 addr w,
        .wrBadstrb1000 addr w, .wrBadstrb1001 addr w, .wrBadstrb1010 addr w, .wrBadstrb1011 addr w,
        .wrBadstrb1100 addr w, .wrBadstrb1101 addr w, .wrBadstrb1110 addr w],
      exec i s = .next { s with result := .written .slverr }

/-- R83: a misaligned access is refused; a read returns 0; nothing changes. -/
def Obligations.MisalignedRefused : Prop :=
  (∀ (addr : BitVec 12) (strb : BitVec 4) (w : U32) (s : State), addr.extractLsb' 0 2 ≠ 0b00#2 →
    exec (decode (.bus false addr strb w)) s = .next { s with result := .read 0x00000000#32 .slverr } ∧
      exec (decode (.bus true addr 0b1111#4 w)) s = .next { s with result := .written .slverr }) ∧
  ∀ (addr : BitVec 12) (w : U32) (s : State),
    (∀ i ∈ [Instr.rdMisaligned1 addr, .rdMisaligned2 addr, .rdMisaligned3 addr],
      exec i s = .next { s with result := .read 0x00000000#32 .slverr }) ∧
    ∀ i ∈ [Instr.wrMisaligned1 addr w, .wrMisaligned2 addr w, .wrMisaligned3 addr w],
      exec i s = .next { s with result := .written .slverr }

/-- R84: an access at an aligned offset without a register is refused; a read returns 0; nothing changes. -/
def Obligations.UnmappedRefused : Prop :=
  (∀ (addr : BitVec 12) (strb : BitVec 4) (w : U32) (s : State), addr.toNat % 4 = 0 →
    (addr = 0x014#12 ∨ addr = 0x074#12 ∨ 0x080 ≤ addr.toNat) →
    exec (decode (.bus false addr strb w)) s = .next { s with result := .read 0x00000000#32 .slverr } ∧
      exec (decode (.bus true addr 0b1111#4 w)) s = .next { s with result := .written .slverr }) ∧
  ∀ (addr : BitVec 12) (w : U32) (s : State),
    (∀ i ∈ [Instr.rdUnmapped014, .rdUnmapped074, .rdUnmappedHiB7 addr, .rdUnmappedHiB8 addr, .rdUnmappedHiB9 addr,
        .rdUnmappedHiB10 addr, .rdUnmappedHiB11 addr],
      exec i s = .next { s with result := .read 0x00000000#32 .slverr }) ∧
    ∀ i ∈ [Instr.wrUnmapped014 w, .wrUnmapped074 w, .wrUnmappedHiB7 addr w, .wrUnmappedHiB8 addr w,
        .wrUnmappedHiB9 addr w, .wrUnmappedHiB10 addr w, .wrUnmappedHiB11 addr w],
      exec i s = .next { s with result := .written .slverr }

/-- R101: a write to a read-only register is refused, and nothing changes. -/
def Obligations.ReadOnlyWriteRefused : Prop :=
  (∀ (addr : BitVec 12) (w : U32) (s : State), addr.toNat ∈ readOnlyOffsets →
    exec (decode (.bus true addr 0b1111#4 w)) s = .next { s with result := .written .slverr }) ∧
  ∀ (w : U32) (s : State),
    ∀ i ∈ [Instr.wrRoId w, .wrRoParams w, .wrRoStatus w, .wrRoErrCause w, .wrRoErrIndexLo w, .wrRoErrIndexHi w,
        .wrRoNcoIncLo w, .wrRoNcoIncHi w, .wrRoNcoPhaseLo w, .wrRoNcoPhaseHi w, .wrRoInCountLo w, .wrRoInCountHi w,
        .wrRoOutCountLo w, .wrRoOutCountHi w, .wrRoOutRate w, .wrRoFirGainLo w, .wrRoFirGainHi w],
      exec i s = .next { s with result := .written .slverr }

/-- R302: SLVERR is returned for exactly the accesses of its table, and then nothing changes. -/
def Obligations.SlverrExactly : Prop :=
  ∀ (we : Bool) (addr : BitVec 12) (strb : BitVec 4) (w : U32) (s : State),
    (refusedAccess we addr strb w s → exec (decode (.bus we addr strb w)) s = .next (refused we s)) ∧
      ∀ t, ¬refusedAccess we addr strb w s → exec (decode (.bus we addr strb w)) s = .next t →
        isSlverr t.result = false

/-! Reads -/

/-- R102, R103, R104, R114, R115, R128, R129, R130: the constant reads, and the reads of what the last successful
START computed. -/
def Obligations.ConstantAndRunResultReads : Prop :=
  (∀ (strb : BitVec 4) (w : U32), decode (.bus false 0x000#12 strb w) = .rdId ∧
    decode (.bus false 0x004#12 strb w) = .rdParams ∧ decode (.bus false 0x008#12 strb w) = .rdCmd ∧
    decode (.bus false 0x050#12 strb w) = .rdNcoIncLo ∧ decode (.bus false 0x054#12 strb w) = .rdNcoIncHi ∧
    decode (.bus false 0x070#12 strb w) = .rdOutRate ∧ decode (.bus false 0x078#12 strb w) = .rdFirGainLo ∧
    decode (.bus false 0x07C#12 strb w) = .rdFirGainHi) ∧
  ∀ s : State,
    exec .rdId s = .next { s with result := .read 0x464D4431#32 .okay } ∧
    exec .rdParams s =
      .next { s with
        result := .read (0x00#8 ++ BitVec.ofNat 8 s.build.outFifoDepth ++ BitVec.ofNat 16 s.build.tapDepth) .okay } ∧
    (s.build = Config.specBuild → exec .rdParams s = .next { s with result := .read 0x00100400#32 .okay }) ∧
    exec .rdCmd s = .next { s with result := .read 0x00000000#32 .okay } ∧
    exec .rdNcoIncLo s = .next { s with result := .read (s.wInc.extractLsb' 0 32) .okay } ∧
    exec .rdNcoIncHi s = .next { s with result := .read (s.wInc.extractLsb' 32 32) .okay } ∧
    exec .rdOutRate s = .next { s with result := .read s.outRate .okay } ∧
    exec .rdFirGainLo s = .next { s with result := .read (s.firGain.extractLsb' 0 32) .okay } ∧
    exec .rdFirGainHi s = .next { s with result := .read (s.firGain.extractLsb' 32 32) .okay }

/-- R106: every field of STATUS, as it is at the moment of the read. -/
def Obligations.StatusRead : Prop :=
  (∀ (strb : BitVec 4) (w : U32), decode (.bus false 0x00C#12 strb w) = .rdStatus) ∧
  ∀ s : State, ∃ v : U32,
    exec .rdStatus s = .next { s with result := .read v .okay } ∧
      v.extractLsb' 16 16 = 0#16 ∧
      v.extractLsb' 8 8 = BitVec.ofNat 8 s.queue.length ∧
      v.extractLsb' 6 2 = 0#2 ∧
      v.getLsbD 5 =
        ((s.irqStatus.getLsbD 0 && s.irqEnable.getLsbD 0) || (s.irqStatus.getLsbD 1 && s.irqEnable.getLsbD 1)) ∧
      v.getLsbD 4 = s.rateInexact ∧
      v.getLsbD 3 = decide (s.runState = .run ∧ s.queue.length < s.build.outFifoDepth) ∧
      v.getLsbD 2 = decide (0 < s.queue.length) ∧
      v.extractLsb' 0 2 =
        match s.runState with
        | .idle => 0#2
        | .run => 1#2
        | .done => 2#2
        | .fault => 3#2

/-- R107, R108, R109, R301: the reads of the error registers, and the number ERR_CAUSE reads as after a fault. -/
def Obligations.ErrorReads : Prop :=
  (∀ (strb : BitVec 4) (w : U32), decode (.bus false 0x010#12 strb w) = .rdErrCause ∧
    decode (.bus false 0x018#12 strb w) = .rdErrIndexLo ∧ decode (.bus false 0x01C#12 strb w) = .rdErrIndexHi) ∧
  ∀ s : State,
    exec .rdErrCause s =
      .next { s with
        result := .read (0#13 ++ s.errCause.stage ++ 0#4 ++ s.errCause.detail ++ 0#4 ++ s.errCause.cause) .okay } ∧
    exec .rdErrIndexLo s = .next { s with result := .read (s.errIndex.extractLsb' 0 32) .okay } ∧
    exec .rdErrIndexHi s = .next { s with result := .read (s.errIndex.extractLsb' 32 32) .okay } ∧
    (0#13 ++ s.errCause.stage ++ 0#4 ++ s.errCause.detail ++ 0#4 ++ s.errCause.cause).toNat =
      s.errCause.cause.toNat + s.errCause.detail.toNat * 2 ^ 8 + s.errCause.stage.toNat * 2 ^ 16

/-- R111, R112, R116, R131, R133, R135, R137, R139, R141, R143: the reads of the interrupt and configuration
registers. -/
def Obligations.ConfigurationReads : Prop :=
  (∀ (strb : BitVec 4) (w : U32), decode (.bus false 0x020#12 strb w) = .rdIrqStatus ∧
    decode (.bus false 0x024#12 strb w) = .rdIrqEnable ∧ decode (.bus false 0x028#12 strb w) = .rdSampleRate ∧
    decode (.bus false 0x02C#12 strb w) = .rdDecimM ∧ decode (.bus false 0x030#12 strb w) = .rdDcAlphaLo ∧
    decode (.bus false 0x034#12 strb w) = .rdDcAlphaHi ∧ decode (.bus false 0x038#12 strb w) = .rdMixFreqLo ∧
    decode (.bus false 0x03C#12 strb w) = .rdMixFreqHi ∧ decode (.bus false 0x040#12 strb w) = .rdFirNtaps ∧
    decode (.bus false 0x044#12 strb w) = .rdTapAddr) ∧
  ∀ s : State,
    exec .rdIrqStatus s = .next { s with result := .read (0#30 ++ s.irqStatus) .okay } ∧
    exec .rdIrqEnable s = .next { s with result := .read (0#30 ++ s.irqEnable) .okay } ∧
    exec .rdSampleRate s = .next { s with result := .read s.sampleRate .okay } ∧
    exec .rdDecimM s = .next { s with result := .read s.decimM .okay } ∧
    exec .rdDcAlphaLo s = .next { s with result := .read (s.dcAlpha.extractLsb' 0 32) .okay } ∧
    exec .rdDcAlphaHi s = .next { s with result := .read (s.dcAlpha.extractLsb' 32 32) .okay } ∧
    exec .rdMixFreqLo s = .next { s with result := .read (s.mixFreq.extractLsb' 0 32) .okay } ∧
    exec .rdMixFreqHi s = .next { s with result := .read (s.mixFreq.extractLsb' 32 32) .okay } ∧
    exec .rdFirNtaps s = .next { s with result := .read s.firNtaps .okay } ∧
    exec .rdTapAddr s = .next { s with result := .read (0#16 ++ s.tapAddr) .okay }

/-- R122 to R127: the live pairs, whose LO read copies bits 63:32 to SNAP and whose HI read returns SNAP. -/
def Obligations.LivePairReads : Prop :=
  (∀ (strb : BitVec 4) (w : U32), decode (.bus false 0x058#12 strb w) = .rdNcoPhaseLo ∧
    decode (.bus false 0x05C#12 strb w) = .rdNcoPhaseHi ∧ decode (.bus false 0x060#12 strb w) = .rdInCountLo ∧
    decode (.bus false 0x064#12 strb w) = .rdInCountHi ∧ decode (.bus false 0x068#12 strb w) = .rdOutCountLo ∧
    decode (.bus false 0x06C#12 strb w) = .rdOutCountHi) ∧
  ∀ s : State,
    exec .rdNcoPhaseLo s =
      .next { s with snap := s.phi.extractLsb' 32 32, result := .read (s.phi.extractLsb' 0 32) .okay } ∧
    exec .rdInCountLo s =
      .next { s with snap := s.inCount.extractLsb' 32 32, result := .read (s.inCount.extractLsb' 0 32) .okay } ∧
    exec .rdOutCountLo s =
      .next { s with snap := s.outCount.extractLsb' 32 32, result := .read (s.outCount.extractLsb' 0 32) .okay } ∧
    exec .rdNcoPhaseHi s = .next { s with result := .read s.snap .okay } ∧
    exec .rdInCountHi s = .next { s with result := .read s.snap .okay } ∧
    exec .rdOutCountHi s = .next { s with result := .read s.snap .okay }

/-- R44, R64(b): only reset and the three LO reads change SNAP, so a HI read after a LO read, with none of these
between, returns the upper half of the one value that the LO read returned the lower half of. -/
def Obligations.SnapOnlyFromLoReads : Prop :=
  ∀ (e : Event) (s t : State), performEvent e s = .next t → t.snap ≠ s.snap →
    (e = .reset ∧ t.snap = 0#32) ∨
    (eventIs .rdNcoPhaseLo e = true ∧ t.snap = s.phi.extractLsb' 32 32) ∨
    (eventIs .rdInCountLo e = true ∧ t.snap = s.inCount.extractLsb' 32 32) ∨
    (eventIs .rdOutCountLo e = true ∧ t.snap = s.outCount.extractLsb' 32 32)

/-- R65: a bus read other than the five of its list has no side effect, and repeated it returns the same. -/
def Obligations.OtherReadsAreIdempotent : Prop :=
  ∀ (addr : BitVec 12) (strb : BitVec 4) (w : U32) (s : State),
    decode (.bus false addr strb w) ∉ sideEffectReads →
    ∃ r, exec (decode (.bus false addr strb w)) s = .next { s with result := r } ∧
      exec (decode (.bus false addr strb w)) { s with result := r } = .next { s with result := r }

/-! Writes -/

/-- R110, R113, R132, R134, R136, R138, R140, R142, R144: the writes of the interrupt and configuration
registers. -/
def Obligations.RegisterWrites : Prop :=
  ∀ w : U32,
    (decode (.bus true 0x020#12 0b1111#4 w) = .wrIrqStatus w ∧ decode (.bus true 0x024#12 0b1111#4 w) = .wrIrqEnable w ∧
      decode (.bus true 0x028#12 0b1111#4 w) = .wrSampleRate w ∧
      decode (.bus true 0x02C#12 0b1111#4 w) = .wrDecimM w ∧
      decode (.bus true 0x030#12 0b1111#4 w) = .wrDcAlphaLo w ∧
      decode (.bus true 0x034#12 0b1111#4 w) = .wrDcAlphaHi w ∧
      decode (.bus true 0x038#12 0b1111#4 w) = .wrMixFreqLo w ∧
      decode (.bus true 0x03C#12 0b1111#4 w) = .wrMixFreqHi w ∧
      decode (.bus true 0x040#12 0b1111#4 w) = .wrFirNtaps w) ∧
    ∀ s : State,
      exec (.wrIrqStatus w) s =
        .next { s with irqStatus := s.irqStatus &&& ~~~(w.extractLsb' 0 2), result := .written .okay } ∧
      exec (.wrIrqEnable w) s = .next { s with irqEnable := w.extractLsb' 0 2, result := .written .okay } ∧
      exec (.wrSampleRate w) s = .next { s with sampleRate := w, result := .written .okay } ∧
      exec (.wrDecimM w) s = .next { s with decimM := w, result := .written .okay } ∧
      exec (.wrDcAlphaLo w) s =
        .next { s with dcAlpha := s.dcAlpha.extractLsb' 32 32 ++ w, result := .written .okay } ∧
      exec (.wrDcAlphaHi w) s =
        .next { s with dcAlpha := w ++ s.dcAlpha.extractLsb' 0 32, result := .written .okay } ∧
      exec (.wrMixFreqLo w) s =
        .next { s with mixFreq := s.mixFreq.extractLsb' 32 32 ++ w, result := .written .okay } ∧
      exec (.wrMixFreqHi w) s =
        .next { s with mixFreq := w ++ s.mixFreq.extractLsb' 0 32, result := .written .okay } ∧
      exec (.wrFirNtaps w) s = .next { s with firNtaps := w, result := .written .okay }

/-- R117, R118: the writes of TAP_ADDR and TAP_DATA_LO, performed outside RUN and otherwise refused; TAP_ADDR takes an
index of the tap RAM only. -/
def Obligations.TapAddressAndLowWrites : Prop :=
  ∀ (w : U32) (s : State),
    decode (.bus true 0x044#12 0b1111#4 w) = .wrTapAddr w ∧ decode (.bus true 0x048#12 0b1111#4 w) = .wrTapDataLo w ∧
    exec (.wrTapAddr w) s =
      .next (if s.runState = .run then { s with result := .written .slverr }
        else if s.build.tapDepth ≤ (w.extractLsb' 0 16).toNat then { s with result := .written .slverr }
        else { s with tapAddr := w.extractLsb' 0 16, result := .written .okay }) ∧
    exec (.wrTapDataLo w) s =
      .next (if s.runState = .run then { s with result := .written .slverr }
        else { s with tapWlo := w, result := .written .okay })

/-- R119, R121: the reads of TAP_DATA, in every STATE. -/
def Obligations.TapDataReads : Prop :=
  (∀ (strb : BitVec 4) (w : U32), decode (.bus false 0x048#12 strb w) = .rdTapDataLo ∧
    decode (.bus false 0x04C#12 strb w) = .rdTapDataHi) ∧
  ∀ s : State, s.tapAddr.toNat < s.build.tapDepth →
    exec .rdTapDataLo s =
      .next { s with
        tapRhi := (tapRead s.taps s.tapAddr.toNat).extractLsb' 32 32
        result := .read ((tapRead s.taps s.tapAddr.toNat).extractLsb' 0 32) .okay } ∧
    exec .rdTapDataHi s =
      .next { s with
        tapAddr := BitVec.ofNat 16 ((s.tapAddr.toNat + 1) % s.build.tapDepth)
        result := .read s.tapRhi .okay }

/-- R120, R64(a): the write of TAP_DATA_HI puts the data and TAP_WLO in one entry; every other entry is as before. In
RUN it is refused. R60 gives the tap RAM no byte addresses: the image it is held as, with the entry's eight bytes from
8·TAP_ADDR up in the order of R61 and every other byte as before, is the model's own (log entry 7). -/
def Obligations.TapDataHiWrite : Prop :=
  ∀ (w : U32) (s : State), s.tapAddr.toNat < s.build.tapDepth →
    decode (.bus true 0x04C#12 0b1111#4 w) = .wrTapDataHi w ∧
    (s.runState = .run → exec (.wrTapDataHi w) s = .next { s with result := .written .slverr }) ∧
    (s.runState ≠ .run →
      ∃ taps : Memory,
        exec (.wrTapDataHi w) s =
          .next { s with
            taps := taps
            tapAddr := BitVec.ofNat 16 ((s.tapAddr.toNat + 1) % s.build.tapDepth)
            result := .written .okay } ∧
        (∀ a, memRead taps a =
          if 8 * s.tapAddr.toNat ≤ a ∧ a < 8 * s.tapAddr.toNat + 8 then
            some ((w ++ s.tapWlo).extractLsb' (8 * (a - 8 * s.tapAddr.toNat)) 8)
          else memRead s.taps a) ∧
        ∀ j, tapRead taps j = if j = s.tapAddr.toNat then w ++ s.tapWlo else tapRead s.taps j)

/-- R52, R36, R222: only a write of TAP_DATA_HI outside RUN changes a byte of the tap RAM; reset does not. -/
def Obligations.TapsWrittenOnlyByTapDataHi : Prop :=
  ∀ (e : Event) (s t : State), performEvent e s = .next t → t.taps ≠ s.taps →
    ∃ w, eventIs (.wrTapDataHi w) e = true ∧ s.runState ≠ .run

/-! Commands -/

/-- R105: a write of CMD does what the command of its word does, and answers in every state. -/
def Obligations.CmdWriteRunsCommand : Prop :=
  ∀ (w : U32) (s : State), decode (.bus true 0x008#12 0b1111#4 w) = .wrCmd w ∧
    ∃ t, exec (.wrCmd w) s = .next t ∧ exec (decodeCommand w).toInstr s = .next t

/-- R150, R160: NOP and ABORT, by their words and by name, in every STATE. -/
def Obligations.NopAndAbort : Prop :=
  decodeCommand 0x00000000#32 = .nop ∧ decodeCommand 0x00000003#32 = .abort ∧
  ∀ s : State,
    exec .nop s = .next { s with result := .written .okay } ∧
    exec (.wrCmd 0x00000000#32) s = .next { s with result := .written .okay } ∧
    exec .abort s =
      .next { s with
        runState := .idle
        queue := []
        errCause := ⟨0#4, 0#4, 0#3⟩
        errIndex := 0#64
        result := .written .okay } ∧
    exec (.wrCmd 0x00000003#32) s = exec .abort s

/-- R162, R164, R87: STAGE_RESET clears the stages its mask names and nothing else, in every STATE. -/
def Obligations.StageResetClears : Prop :=
  ∀ (mask : BitVec 5) (s : State),
    decodeCommand (BitVec.ofNat 32 (0x00000004 + mask.toNat * 2 ^ 8)) = .stageReset mask ∧
    ∃ t : State, exec (.stageReset mask) s = .next { t with result := .written .okay } ∧
      t = { s with
        dcPx := t.dcPx
        dcPy := t.dcPy
        phi := t.phi
        hist := t.hist
        decCnt := t.decCnt
        demPrev := t.demPrev
        demHasPrev := t.demHasPrev
        demKept := t.demKept } ∧
      t.dcPx = (if mask.getLsbD 0 then czero else s.dcPx) ∧ t.dcPy = (if mask.getLsbD 0 then czero else s.dcPy) ∧
      t.phi = (if mask.getLsbD 1 then zero64 else s.phi) ∧
      (∀ j, histGet t.hist j = if mask.getLsbD 2 then czero else histGet s.hist j) ∧
      t.decCnt = (if mask.getLsbD 3 then 0#32 else s.decCnt) ∧
      t.demPrev = (if mask.getLsbD 4 then czero else s.demPrev) ∧
      t.demHasPrev = (if mask.getLsbD 4 then false else s.demHasPrev) ∧
      t.demKept = if mask.getLsbD 4 then 0 else s.demKept

/-- R151: which commands a STATE refuses, and that a refused one changes nothing. -/
def Obligations.CommandAcceptance : Prop :=
  ∀ (c : Command) (s : State), (∀ w, c ≠ .illegal w) →
    (((c = .start ∧ s.runState = .run) ∨ (c = .eos ∧ s.runState ≠ .run)) →
      exec (.wrCmd c.word) s = .next { s with result := .written .slverr }) ∧
    (¬((c = .start ∧ s.runState = .run) ∨ (c = .eos ∧ s.runState ≠ .run)) →
      ∃ t, exec (.wrCmd c.word) s = .next t ∧ t.result = .written .okay)

/-- R152, R153, R305: START outside RUN with a check that fails. The first failing check of the table is reported,
after the stages, the counters, Q and the error registers were cleared; the working configuration stays. -/
def Obligations.StartFirstFailedCheck : Prop :=
  ∀ (s : State) (d k : Nat), s.runState ≠ .run → checkFails s d → (∀ e, e < d → ¬checkFails s e) →
    checkIndex s d k →
    exec .start s =
      .next { faulted 1#4 (BitVec.ofNat 4 d) 0#3 (BitVec.ofNat 64 k)
          { withStagesClear s with inCount := 0#64, outCount := 0#64 } with
        result := .written .okay }

/-- R152, R153: START outside RUN with every check passed begins the run. -/
def Obligations.StartBeginsRun : Prop :=
  ∀ s : State, s.runState ≠ .run → (∀ d, ¬checkFails s d) →
    ∃ gain : F64,
      exec .start s =
        .next { withStagesClear s with
          runState := .run
          queue := []
          inCount := 0#64
          outCount := 0#64
          errCause := ⟨0#4, 0#4, 0#3⟩
          errIndex := 0#64
          wAlpha := s.dcAlpha
          wNtaps := s.firNtaps
          wM := s.decimM
          wInc := rem64 (incRaw s.mixFreq s.sampleRate) twoPi64
          outRate := BitVec.ofNat 32 (s.sampleRate.toNat / s.decimM.toNat)
          rateInexact := decide (s.sampleRate.toNat % s.decimM.toNat ≠ 0)
          firGain := gain
          result := .written .okay } ∧
      ∃ g : Nat → F64, g 0 = tapRead s.taps 0 ∧ (∀ k, g (k + 1) = add64 (g k) (tapRead s.taps (k + 1))) ∧
        gain = g (s.firNtaps.toNat - 1)

/-- R158: EOS ends a run, faults when fewer than two samples reached the demodulator, and is refused outside RUN. -/
def Obligations.EosEndsRun : Prop :=
  ∀ s : State,
    (s.runState ≠ .run → exec .eos s = .next { s with result := .written .slverr }) ∧
    (s.runState = .run → s.demKept < 2 →
      exec .eos s = .next { faulted 3#4 0#4 5#3 s.inCount s with result := .written .okay }) ∧
    (s.runState = .run → 2 ≤ s.demKept →
      exec .eos s =
        .next { s with runState := .done, irqStatus := s.irqStatus ||| 0b01#2, result := .written .okay })

/-! The sample ports -/

/-- R170, R172, R174: an accepted input beat, whole: the first stage whose value is not finite faults and commits
nothing but the count, and otherwise every stage's next state is committed at once and an output, if there is one,
enters Q. -/
def Obligations.InBeatProcesses : Prop :=
  ∀ (s : State) (i q : F64), s.runState = .run → s.queue.length < s.build.outFifoDepth →
    s.wNtaps.toNat ≤ s.build.tapDepth →
    let y : Cplx :=
      ⟨add64 (sub64 i s.dcPx.re) (mul64 s.wAlpha s.dcPy.re), add64 (sub64 q s.dcPx.im) (mul64 s.wAlpha s.dcPy.im)⟩
    let m : Cplx :=
      ⟨sub64 (mul64 y.re (ncoCos s.phi)) (mul64 y.im (ncoSin s.phi)),
        add64 (mul64 y.re (ncoSin s.phi)) (mul64 y.im (ncoCos s.phi))⟩
    let f := firOut (tapRead s.taps) s.wNtaps.toNat s.hist m
    let p : Cplx :=
      ⟨add64 (mul64 f.re s.demPrev.re) (mul64 f.im s.demPrev.im),
        sub64 (mul64 f.im s.demPrev.re) (mul64 f.re s.demPrev.im)⟩
    let counted : State := { s with inCount := s.inCount + 1#64, result := .accepted }
    let moved : State :=
      { counted with
        dcPx := ⟨i, q⟩
        dcPy := y
        phi := wrapPhase (add64 s.phi s.wInc)
        hist := histPush s.wNtaps.toNat m s.hist
        decCnt := if s.decCnt.toNat + 1 = s.wM.toNat then 0#32 else s.decCnt + 1#32 }
    let kept : State := { moved with demPrev := f, demHasPrev := true, demKept := min (s.demKept + 1) 2 }
    exec (.inBeat i q) s =
      .next (if ¬isFiniteC y then faulted 4#4 0#4 1#3 s.inCount counted
        else if ¬isFiniteC m then faulted 4#4 0#4 2#3 s.inCount counted
        else if ¬isFiniteC f then faulted 4#4 0#4 3#3 s.inCount counted
        else if s.decCnt ≠ 0#32 then moved
        else if s.demHasPrev = false then kept
        else if ¬isFiniteC p then faulted 4#4 0#4 5#3 s.inCount counted
        else { kept with queue := s.queue ++ [angle p], outCount := s.outCount + 1#64 })

/-- R170, R172: an input beat whose values stay finite is accepted, and everything it does is committed: the DC
blocker, the phase, HIST, DEC_CNT, on a kept sample the demodulator, and Q and OUT_COUNT when there is an output. Every
other field, the error registers and the interrupt bits among them, is as before. -/
def Obligations.InBeatCompletes : Prop :=
  ∀ (s : State) (i q : F64), s.runState = .run → s.queue.length < s.build.outFifoDepth →
    s.wNtaps.toNat ≤ s.build.tapDepth →
    let y := dcbStep s.wAlpha s.dcPx s.dcPy ⟨i, q⟩
    let m := ncoMix s.phi y
    let f := firOut (tapRead s.taps) s.wNtaps.toNat s.hist m
    isFiniteC y = true → isFiniteC m = true → isFiniteC f = true →
    (s.decCnt = 0#32 → s.demHasPrev = true → isFiniteC (demProduct f s.demPrev) = true) →
    exec (.inBeat i q) s =
      .next { s with
        inCount := s.inCount + 1#64
        dcPx := ⟨i, q⟩
        dcPy := y
        phi := wrapPhase (add64 s.phi s.wInc)
        hist := histPush s.wNtaps.toNat m s.hist
        decCnt := decNext s.decCnt s.wM
        demPrev := if s.decCnt = 0#32 then f else s.demPrev
        demHasPrev := s.demHasPrev || decide (s.decCnt = 0#32)
        demKept := if s.decCnt = 0#32 then min (s.demKept + 1) 2 else s.demKept
        queue :=
          if s.decCnt = 0#32 ∧ s.demHasPrev = true then s.queue ++ [angle (demProduct f s.demPrev)] else s.queue
        outCount := if s.decCnt = 0#32 ∧ s.demHasPrev = true then s.outCount + 1#64 else s.outCount
        result := .accepted }

/-- R170, R67, R179: an input beat that the port does not take yet waits: it stays offered and nothing changes. That
it stays first in the order is the model's own (log entry 1). -/
def Obligations.InBeatWaits : Prop :=
  ∀ (s : State) (i q : F64), ¬(s.runState = .run ∧ s.queue.length < s.build.outFifoDepth) →
    exec (.inBeat i q) s = .next { s with offered := .txn (.input (i ++ q)) :: s.offered }

/-- R175: an input with a component that is not finite always faults at the DC blocker. -/
def Obligations.NonFiniteInputFaultsAtDcb : Prop :=
  ∀ (s : State) (i q : F64), s.runState = .run → s.queue.length < s.build.outFifoDepth →
    s.wNtaps.toNat ≤ s.build.tapDepth → isFinite64 i = false ∨ isFinite64 q = false →
    exec (.inBeat i q) s =
      .next (faulted 4#4 0#4 1#3 s.inCount { s with inCount := s.inCount + 1#64, result := .accepted })

/-- R176: an output beat delivers the oldest value of Q, in any STATE, and waits while Q is empty. That it then stays
first in the order is the model's own (log entry 1). -/
def Obligations.OutBeatDelivers : Prop :=
  ∀ s : State,
    (∀ v rest, s.queue = v :: rest → exec .outBeat s = .next { s with queue := rest, result := .delivered v }) ∧
    (s.queue = [] → exec .outBeat s = .next { s with offered := .txn .output :: s.offered })

/-! The stages -/

/-- R190: the first sample after a clear goes through the DC blocker, but for a −0 part, which becomes +0. -/
def Obligations.DcbFirstSample : Prop :=
  ∀ (alpha : F64) (x : Cplx), lt64 zero64 alpha = true → lt64 alpha one64 = true → isFiniteC x = true →
    dcbStep alpha czero czero x =
      ⟨if x.re = 0x8000000000000000#64 then zero64 else x.re, if x.im = 0x8000000000000000#64 then zero64 else x.im⟩

/-- R201: at phase ±0 the mixer passes every part of a finite sample that is not a zero through, bit for bit. -/
def Obligations.MixerAtZeroPhase : Prop :=
  ∀ (phi : F64) (y : Cplx), isZero64 phi = true → isFiniteC y = true →
    (isZero64 y.re = false → (ncoMix phi y).re = y.re) ∧ (isZero64 y.im = false → (ncoMix phi y).im = y.im) ∧
      (isZero64 y.re = true → isZero64 (ncoMix phi y).re = true) ∧
      (isZero64 y.im = true → isZero64 (ncoMix phi y).im = true)

/-- R203, properties 1, 3 and 4 (log entry 5): range, zeros and symmetry of NCO_COS and NCO_SIN. -/
def Obligations.NcoFunctionProperties : Prop :=
  (∀ phi : F64,
    isFinite64 (ncoCos phi) = true ∧ isFinite64 (ncoSin phi) = true ∧
      le64 (neg64 one64) (ncoCos phi) = true ∧ le64 (ncoCos phi) one64 = true ∧
      le64 (neg64 one64) (ncoSin phi) = true ∧ le64 (ncoSin phi) one64 = true ∧
      ncoCos (neg64 phi) = ncoCos phi ∧ ncoSin (neg64 phi) = neg64 (ncoSin phi)) ∧
  ncoCos zero64 = one64 ∧ ncoCos (neg64 zero64) = one64 ∧ ncoSin zero64 = zero64 ∧
    ncoSin (neg64 zero64) = neg64 zero64

/-- R253, properties 1, 3 and 4 (log entry 5): range, axes and symmetry of DEM_ATAN2. -/
def Obligations.DemAtan2Properties : Prop :=
  (∀ y x : F64, inPiRange (demAtan2 y x) = true) ∧
  (∀ x : F64, lt64 zero64 x = true → demAtan2 zero64 x = zero64 ∧ demAtan2 (neg64 zero64) x = neg64 zero64) ∧
  (∀ y x : F64, isZero64 x = true → lt64 zero64 y = true → demAtan2 y x = halfPi64) ∧
  (∀ y x : F64, isZero64 x = true → lt64 y zero64 = true → demAtan2 y x = neg64 halfPi64) ∧
  (∀ y x : F64, isZero64 y = false → demAtan2 (neg64 y) x = neg64 (demAtan2 y x))

/-- R202: from a phase and an increment in [−PI64, PI64] the wrap needs at most one correction, which is exact, and
its result is in [−PI64, PI64] again. -/
def Obligations.WrapIsExactAndInRange : Prop :=
  ∀ phi inc : F64, inPiRange phi = true → inPiRange inc = true →
    let s := add64 phi inc
    inPiRange (wrapPhase s) = true ∧
      units64 (wrapPhase s) =
        if lt64 pi64 s then units64 s - units64 twoPi64
        else if lt64 s (neg64 pi64) then units64 s + units64 twoPi64
        else units64 s

/-- R200: the working increment is IncRaw reduced by whole turns into [−PI64, PI64], and is IncRaw itself when that
is there already; a frequency's sign turns the increment's sign. -/
def Obligations.WorkingIncrement : Prop :=
  ∀ (f : F64) (fs : U32), isFinite64 f = true → fs ≠ 0#32 →
    incRaw f fs = neg64 (div64 (mul64 twoPi64 f) (ofU32 fs)) ∧
    units64 (ofU32 fs) = (fs.toNat : Int) * 2 ^ 1074 ∧
    incRaw f fs = div64 (mul64 twoPi64 (neg64 f)) (ofU32 fs) ∧
    (isFinite64 (incRaw f fs) = true →
      inPiRange (incReduced f fs) = true ∧
      (∃ n : Int, units64 (incReduced f fs) = units64 (incRaw f fs) - n * units64 twoPi64) ∧
      (inPiRange (incRaw f fs) = true → incReduced f fs = incRaw f fs))

/-- R220: the FIR sum term by term, k ascending from the product of tap 0; the FIR output, whose two parts are that
sum over the same part of the mixer's output and of HIST; and the next history. -/
def Obligations.FirSumAndHistory : Prop :=
  (∀ (tap past : Nat → F64) (m : F64),
    firSum tap past 1 m = mul64 (tap 0) m ∧
      ∀ n, firSum tap past (n + 2) m = add64 (firSum tap past (n + 1) m) (mul64 (tap (n + 1)) (past n))) ∧
  (∀ (tap : Nat → F64) (n : Nat) (h : List Cplx) (m : Cplx),
    (firOut tap n h m).re = firSum tap (fun j => (histGet h j).re) n m.re ∧
      (firOut tap n h m).im = firSum tap (fun j => (histGet h j).im) n m.im) ∧
  (∀ (tap : Nat → F64) (h : List Cplx) (m : Cplx),
    firOut tap 1 h m = ⟨mul64 (tap 0) m.re, mul64 (tap 0) m.im⟩ ∧
      ∀ k, firOut tap (k + 2) h m =
        ⟨add64 (firOut tap (k + 1) h m).re (mul64 (tap (k + 1)) (histGet h k).re),
          add64 (firOut tap (k + 1) h m).im (mul64 (tap (k + 1)) (histGet h k).im)⟩) ∧
  ∀ (n : Nat) (m : Cplx) (h : List Cplx),
    (n = 1 → histPush n m h = h) ∧
    (2 ≤ n → histGet (histPush n m h) 0 = m ∧
      (∀ j, 1 ≤ j → j ≤ n - 2 → histGet (histPush n m h) j = histGet h (j - 1)) ∧
      ∀ j, n - 1 ≤ j → histGet (histPush n m h) j = histGet h j)

/-- R240: a FIR output is kept exactly at the start of its group, and the counter goes round the group. -/
def Obligations.DecimationSelector : Prop :=
  ∀ cnt m : U32, cnt.toNat < m.toNat →
    (decKeep cnt = true ↔ cnt.toNat = 0) ∧ (decNext cnt m).toNat = (cnt.toNat + 1) % m.toNat

/-- R251: the angle, its branch cut and its range. -/
def Obligations.AnglePrincipalValue : Prop :=
  ∀ p : Cplx, isFiniteC p = true →
    angle p =
        (if isZero64 p.re = true ∧ isZero64 p.im = true then zero64
        else if isZero64 p.im = true ∧ lt64 p.re zero64 = true then pi64
        else demAtan2 p.im p.re) ∧
      inPiRange (angle p) = true

/-- R252: a kept sample equal to the one before it gives an output of ZERO, unless the product overflows. -/
def Obligations.DemodulatorRepeatedSample : Prop :=
  ∀ (f : Cplx) (kept : Nat) (d : DemNext), isFiniteC f = true → demStep f true kept f = some d →
    d.out = some zero64

/-! The binary64 primitives -/

/-- R10: add64, sub64, mul64 and div64 round the exact sum, difference, product and quotient to nearest, ties to even,
in units of 2^-1074; a quotient by a value below 0 is that of the two values negated. -/
def Obligations.ArithmeticRoundsToNearestEven : Prop :=
  ∀ a b : F64, isFinite64 a = true → isFinite64 b = true →
    IsNearestEven (add64 a b) (units64 a + units64 b) 1 ∧
    IsNearestEven (sub64 a b) (units64 a - units64 b) 1 ∧
    IsNearestEven (mul64 a b) (units64 a * units64 b) (2 ^ 1074) ∧
    (isZero64 b = false →
      IsNearestEven (div64 a b) (units64 a * (units64 b).sign * 2 ^ 1074) (units64 b).natAbs)

/-- R10, R200: rem64 is exact: the nearest whole multiple, ties to even, taken off, and nothing rounded. -/
def Obligations.RemainderIsExact : Prop :=
  ∀ a b : F64, isFinite64 a = true → isFinite64 b = true → isZero64 b = false →
    isFinite64 (rem64 a b) = true ∧
      ∃ n : Int, units64 (rem64 a b) = units64 a - n * units64 b ∧
        2 * (units64 (rem64 a b)).natAbs ≤ (units64 b).natAbs ∧
        (2 * (units64 (rem64 a b)).natAbs = (units64 b).natAbs → n % 2 = 0)

/-! The run and its faults -/

/-- R45: the transitions of STATE. -/
def Obligations.RunStateTransitions : Prop :=
  ∀ (e : Event) (s t : State), performEvent e s = .next t →
    (e = .reset ∧ t.runState = .idle) ∨
    (eventRuns .start e = true ∧ s.runState ≠ .run ∧ (t.runState = .run ∨ t.runState = .fault)) ∨
    (eventRuns .eos e = true ∧ s.runState = .run ∧ (t.runState = .done ∨ t.runState = .fault)) ∨
    (isInputBeat e = true ∧ s.runState = .run ∧ t.runState = .fault) ∨
    (eventRuns .abort e = true ∧ t.runState = .idle) ∨
    t.runState = s.runState

/-- R303, R305: what enters FAULT, and what the fault procedure does whoever raises it. -/
def Obligations.FaultEntry : Prop :=
  ∀ (e : Event) (s t : State), performEvent e s = .next t → t.runState = .fault → s.runState ≠ .fault →
    (eventRuns .start e = true ∨ eventRuns .eos e = true ∨ isInputBeat e = true) ∧
      legalErrCause t.errCause = true ∧ t.queue = [] ∧ t.irqStatus = s.irqStatus ||| 0b10#2 ∧
      t.irqEnable = s.irqEnable ∧ t.taps = s.taps ∧ isSlverr t.result = false

/-- R29, R309: the pending bits are sticky: DONE is set by an EOS that ends a run, FAULT by a fault, and a bit is
cleared by a write of 1 to it or by reset. -/
def Obligations.InterruptBitsSticky : Prop :=
  ∀ (e : Event) (s t : State), performEvent e s = .next t →
    (s.irqStatus.getLsbD 0 = false → t.irqStatus.getLsbD 0 = true →
      eventRuns .eos e = true ∧ s.runState = .run ∧ t.runState = .done) ∧
    (s.irqStatus.getLsbD 1 = false → t.irqStatus.getLsbD 1 = true → t.runState = .fault) ∧
    ∀ k, k < 2 → s.irqStatus.getLsbD k = true → t.irqStatus.getLsbD k = false →
      e = .reset ∨ ∃ w, eventIs (.wrIrqStatus w) e = true ∧ w.getLsbD k = true

/-- R40: the working configuration changes only at a START that begins a run, and at reset. -/
def Obligations.WorkingConfigurationLatched : Prop :=
  ∀ (e : Event) (s t : State), performEvent e s = .next t →
    (t.wAlpha = s.wAlpha ∧ t.wInc = s.wInc ∧ t.wNtaps = s.wNtaps ∧ t.wM = s.wM ∧ t.outRate = s.outRate ∧
      t.rateInexact = s.rateInexact ∧ t.firGain = s.firGain) ∨
    e = .reset ∨
    (eventRuns .start e = true ∧ s.runState ≠ .run ∧ t.runState = .run ∧
      t.wAlpha = s.dcAlpha ∧ t.wNtaps = s.firNtaps ∧ t.wM = s.decimM)

/-- R40, R335 item 1: a beat does the same whatever the configuration registers hold, and leaves them alone. -/
def Obligations.BeatIgnoresConfiguration : Prop :=
  ∀ (s t : State) (i q : F64) (fs m ntaps : U32) (alpha f : F64),
    exec (.inBeat i q) s = .next t →
    exec (.inBeat i q) { s with sampleRate := fs, decimM := m, dcAlpha := alpha, mixFreq := f, firNtaps := ntaps } =
      .next { t with sampleRate := fs, decimM := m, dcAlpha := alpha, mixFreq := f, firNtaps := ntaps }

/-- R75, R337: a bus read between two beats changes nothing of what the next beat does. -/
def Obligations.ReadsBetweenBeatsDoNotMatter : Prop :=
  ∀ (addr : BitVec 12) (strb : BitVec 4) (w : U32) (s t u : State) (i q : F64),
    exec (decode (.bus false addr strb w)) s = .next t → exec (.inBeat i q) t = .next u →
    ∃ v, exec (.inBeat i q) s = .next v ∧
      u = { v with snap := t.snap, tapRhi := t.tapRhi, tapAddr := t.tapAddr, result := u.result }

/-- R330: the values reset leaves, in every build, with the tap RAM unchanged. What is offered waits (log entry 1). -/
def Obligations.ResetLeaves : Prop :=
  (∀ s : State, performEvent .reset s = .next { State.resetOf s.build with taps := s.taps, offered := s.offered }) ∧
  State.reset = State.resetOf Config.specBuild ∧
  ∀ b : Config.Build,
    let r := State.resetOf b
    r.runState = .idle ∧ r.errCause = ⟨0#4, 0#4, 0#3⟩ ∧ r.errIndex = 0#64 ∧ r.irqStatus = 0#2 ∧ r.irqEnable = 0#2 ∧
      r.sampleRate = 0#32 ∧ r.decimM = 1#32 ∧ r.dcAlpha = 0x3FEFAE147AE147AE#64 ∧ r.mixFreq = zero64 ∧
      r.firNtaps = 0#32 ∧ r.tapAddr = 0#16 ∧ r.tapWlo = 0#32 ∧ r.tapRhi = 0#32 ∧ r.wInc = zero64 ∧ r.wAlpha = zero64 ∧
      r.wNtaps = 0#32 ∧ r.wM = 1#32 ∧ r.inCount = 0#64 ∧ r.outCount = 0#64 ∧ r.outRate = 0#32 ∧
      r.rateInexact = false ∧ r.firGain = zero64 ∧ r.snap = 0#32 ∧ r.dcPx = czero ∧ r.dcPy = czero ∧ r.phi = zero64 ∧
      (∀ j, histGet r.hist j = czero) ∧ r.decCnt = 0#32 ∧ r.demPrev = czero ∧ r.demHasPrev = false ∧ r.demKept = 0 ∧
      r.queue = [] ∧ irqLevel r = false ∧ r.build = b

/-! Invariants -/

/-- The state after reset is sound, in every legal build and so in this spec's (R8). -/
def Obligations.ResetIsSound : Prop :=
  (∀ b : Config.Build, b.legal = true →
    Inv (State.resetOf b) ∧ PhaseInRange (State.resetOf b) ∧ CountsAgree (State.resetOf b)) ∧
  Config.specBuild.legal = true

/-- R8, R36, R48 to R51, R54, R60, R153, R175: every step from a sound state leads to a sound state of the same build. -/
def Obligations.StepKeepsInv : Prop := ∀ s t : State, Inv s → step s = .next t → Inv t ∧ t.build = s.build

/-- R66, R81: from a sound state every step answers with a next state: nothing the host offers stops the block. -/
def Obligations.SoundStateNeverStops : Prop := ∀ s : State, Inv s → ∃ t, step s = .next t

/-- R38, R47: every step keeps the phase and the working increment in [−PI64, PI64]. -/
def Obligations.StepKeepsPhaseInRange : Prop := ∀ s t : State, PhaseInRange s → step s = .next t → PhaseInRange t

/-- R178, R241: every step whose event is no STAGE_RESET of DEC or DEM keeps the count of beats, kept samples and outputs
in agreement, in a run and after its successful EOS. -/
def Obligations.StepKeepsCounts : Prop :=
  ∀ s t : State, CountsAgree s → s.inCount.toNat + 1 < 2 ^ 64 →
    (∀ e rest, nextEvent s = some (e, rest) → clearsDecOrDem e = false) → step s = .next t → CountsAgree t
end

