-- ==== Sys2Proof/Laws/State.lean ====
section
/-! SUPPORT. One lemma per field of State for each named update: what the update leaves there. -/

namespace Sys2Proof.Machine

/-! answerRead -/

@[simp] theorem answerRead_runState (v : U32) (s : State) : (answerRead v s).runState = s.runState := rfl
@[simp] theorem answerRead_errCause (v : U32) (s : State) : (answerRead v s).errCause = s.errCause := rfl
@[simp] theorem answerRead_errIndex (v : U32) (s : State) : (answerRead v s).errIndex = s.errIndex := rfl
@[simp] theorem answerRead_irqStatus (v : U32) (s : State) : (answerRead v s).irqStatus = s.irqStatus := rfl
@[simp] theorem answerRead_irqEnable (v : U32) (s : State) : (answerRead v s).irqEnable = s.irqEnable := rfl
@[simp] theorem answerRead_sampleRate (v : U32) (s : State) : (answerRead v s).sampleRate = s.sampleRate := rfl
@[simp] theorem answerRead_decimM (v : U32) (s : State) : (answerRead v s).decimM = s.decimM := rfl
@[simp] theorem answerRead_dcAlpha (v : U32) (s : State) : (answerRead v s).dcAlpha = s.dcAlpha := rfl
@[simp] theorem answerRead_mixFreq (v : U32) (s : State) : (answerRead v s).mixFreq = s.mixFreq := rfl
@[simp] theorem answerRead_firNtaps (v : U32) (s : State) : (answerRead v s).firNtaps = s.firNtaps := rfl
@[simp] theorem answerRead_tapAddr (v : U32) (s : State) : (answerRead v s).tapAddr = s.tapAddr := rfl
@[simp] theorem answerRead_tapWlo (v : U32) (s : State) : (answerRead v s).tapWlo = s.tapWlo := rfl
@[simp] theorem answerRead_tapRhi (v : U32) (s : State) : (answerRead v s).tapRhi = s.tapRhi := rfl
@[simp] theorem answerRead_wAlpha (v : U32) (s : State) : (answerRead v s).wAlpha = s.wAlpha := rfl
@[simp] theorem answerRead_wInc (v : U32) (s : State) : (answerRead v s).wInc = s.wInc := rfl
@[simp] theorem answerRead_wNtaps (v : U32) (s : State) : (answerRead v s).wNtaps = s.wNtaps := rfl
@[simp] theorem answerRead_wM (v : U32) (s : State) : (answerRead v s).wM = s.wM := rfl
@[simp] theorem answerRead_inCount (v : U32) (s : State) : (answerRead v s).inCount = s.inCount := rfl
@[simp] theorem answerRead_outCount (v : U32) (s : State) : (answerRead v s).outCount = s.outCount := rfl
@[simp] theorem answerRead_outRate (v : U32) (s : State) : (answerRead v s).outRate = s.outRate := rfl
@[simp] theorem answerRead_rateInexact (v : U32) (s : State) : (answerRead v s).rateInexact = s.rateInexact := rfl
@[simp] theorem answerRead_firGain (v : U32) (s : State) : (answerRead v s).firGain = s.firGain := rfl
@[simp] theorem answerRead_snap (v : U32) (s : State) : (answerRead v s).snap = s.snap := rfl
@[simp] theorem answerRead_dcPx (v : U32) (s : State) : (answerRead v s).dcPx = s.dcPx := rfl
@[simp] theorem answerRead_dcPy (v : U32) (s : State) : (answerRead v s).dcPy = s.dcPy := rfl
@[simp] theorem answerRead_phi (v : U32) (s : State) : (answerRead v s).phi = s.phi := rfl
@[simp] theorem answerRead_hist (v : U32) (s : State) : (answerRead v s).hist = s.hist := rfl
@[simp] theorem answerRead_decCnt (v : U32) (s : State) : (answerRead v s).decCnt = s.decCnt := rfl
@[simp] theorem answerRead_demPrev (v : U32) (s : State) : (answerRead v s).demPrev = s.demPrev := rfl
@[simp] theorem answerRead_demHasPrev (v : U32) (s : State) : (answerRead v s).demHasPrev = s.demHasPrev := rfl
@[simp] theorem answerRead_demKept (v : U32) (s : State) : (answerRead v s).demKept = s.demKept := rfl
@[simp] theorem answerRead_queue (v : U32) (s : State) : (answerRead v s).queue = s.queue := rfl
@[simp] theorem answerRead_taps (v : U32) (s : State) : (answerRead v s).taps = s.taps := rfl
@[simp] theorem answerRead_offered (v : U32) (s : State) : (answerRead v s).offered = s.offered := rfl
@[simp] theorem answerRead_result (v : U32) (s : State) : (answerRead v s).result = .read v .okay := rfl
@[simp] theorem answerRead_build (v : U32) (s : State) : (answerRead v s).build = s.build := rfl

/-! answerWrite -/

@[simp] theorem answerWrite_runState (s : State) : (answerWrite s).runState = s.runState := rfl
@[simp] theorem answerWrite_errCause (s : State) : (answerWrite s).errCause = s.errCause := rfl
@[simp] theorem answerWrite_errIndex (s : State) : (answerWrite s).errIndex = s.errIndex := rfl
@[simp] theorem answerWrite_irqStatus (s : State) : (answerWrite s).irqStatus = s.irqStatus := rfl
@[simp] theorem answerWrite_irqEnable (s : State) : (answerWrite s).irqEnable = s.irqEnable := rfl
@[simp] theorem answerWrite_sampleRate (s : State) : (answerWrite s).sampleRate = s.sampleRate := rfl
@[simp] theorem answerWrite_decimM (s : State) : (answerWrite s).decimM = s.decimM := rfl
@[simp] theorem answerWrite_dcAlpha (s : State) : (answerWrite s).dcAlpha = s.dcAlpha := rfl
@[simp] theorem answerWrite_mixFreq (s : State) : (answerWrite s).mixFreq = s.mixFreq := rfl
@[simp] theorem answerWrite_firNtaps (s : State) : (answerWrite s).firNtaps = s.firNtaps := rfl
@[simp] theorem answerWrite_tapAddr (s : State) : (answerWrite s).tapAddr = s.tapAddr := rfl
@[simp] theorem answerWrite_tapWlo (s : State) : (answerWrite s).tapWlo = s.tapWlo := rfl
@[simp] theorem answerWrite_tapRhi (s : State) : (answerWrite s).tapRhi = s.tapRhi := rfl
@[simp] theorem answerWrite_wAlpha (s : State) : (answerWrite s).wAlpha = s.wAlpha := rfl
@[simp] theorem answerWrite_wInc (s : State) : (answerWrite s).wInc = s.wInc := rfl
@[simp] theorem answerWrite_wNtaps (s : State) : (answerWrite s).wNtaps = s.wNtaps := rfl
@[simp] theorem answerWrite_wM (s : State) : (answerWrite s).wM = s.wM := rfl
@[simp] theorem answerWrite_inCount (s : State) : (answerWrite s).inCount = s.inCount := rfl
@[simp] theorem answerWrite_outCount (s : State) : (answerWrite s).outCount = s.outCount := rfl
@[simp] theorem answerWrite_outRate (s : State) : (answerWrite s).outRate = s.outRate := rfl
@[simp] theorem answerWrite_rateInexact (s : State) : (answerWrite s).rateInexact = s.rateInexact := rfl
@[simp] theorem answerWrite_firGain (s : State) : (answerWrite s).firGain = s.firGain := rfl
@[simp] theorem answerWrite_snap (s : State) : (answerWrite s).snap = s.snap := rfl
@[simp] theorem answerWrite_dcPx (s : State) : (answerWrite s).dcPx = s.dcPx := rfl
@[simp] theorem answerWrite_dcPy (s : State) : (answerWrite s).dcPy = s.dcPy := rfl
@[simp] theorem answerWrite_phi (s : State) : (answerWrite s).phi = s.phi := rfl
@[simp] theorem answerWrite_hist (s : State) : (answerWrite s).hist = s.hist := rfl
@[simp] theorem answerWrite_decCnt (s : State) : (answerWrite s).decCnt = s.decCnt := rfl
@[simp] theorem answerWrite_demPrev (s : State) : (answerWrite s).demPrev = s.demPrev := rfl
@[simp] theorem answerWrite_demHasPrev (s : State) : (answerWrite s).demHasPrev = s.demHasPrev := rfl
@[simp] theorem answerWrite_demKept (s : State) : (answerWrite s).demKept = s.demKept := rfl
@[simp] theorem answerWrite_queue (s : State) : (answerWrite s).queue = s.queue := rfl
@[simp] theorem answerWrite_taps (s : State) : (answerWrite s).taps = s.taps := rfl
@[simp] theorem answerWrite_offered (s : State) : (answerWrite s).offered = s.offered := rfl
@[simp] theorem answerWrite_result (s : State) : (answerWrite s).result = .written .okay := rfl
@[simp] theorem answerWrite_build (s : State) : (answerWrite s).build = s.build := rfl

/-! refuseRead -/

@[simp] theorem refuseRead_runState (s : State) : (refuseRead s).runState = s.runState := rfl
@[simp] theorem refuseRead_errCause (s : State) : (refuseRead s).errCause = s.errCause := rfl
@[simp] theorem refuseRead_errIndex (s : State) : (refuseRead s).errIndex = s.errIndex := rfl
@[simp] theorem refuseRead_irqStatus (s : State) : (refuseRead s).irqStatus = s.irqStatus := rfl
@[simp] theorem refuseRead_irqEnable (s : State) : (refuseRead s).irqEnable = s.irqEnable := rfl
@[simp] theorem refuseRead_sampleRate (s : State) : (refuseRead s).sampleRate = s.sampleRate := rfl
@[simp] theorem refuseRead_decimM (s : State) : (refuseRead s).decimM = s.decimM := rfl
@[simp] theorem refuseRead_dcAlpha (s : State) : (refuseRead s).dcAlpha = s.dcAlpha := rfl
@[simp] theorem refuseRead_mixFreq (s : State) : (refuseRead s).mixFreq = s.mixFreq := rfl
@[simp] theorem refuseRead_firNtaps (s : State) : (refuseRead s).firNtaps = s.firNtaps := rfl
@[simp] theorem refuseRead_tapAddr (s : State) : (refuseRead s).tapAddr = s.tapAddr := rfl
@[simp] theorem refuseRead_tapWlo (s : State) : (refuseRead s).tapWlo = s.tapWlo := rfl
@[simp] theorem refuseRead_tapRhi (s : State) : (refuseRead s).tapRhi = s.tapRhi := rfl
@[simp] theorem refuseRead_wAlpha (s : State) : (refuseRead s).wAlpha = s.wAlpha := rfl
@[simp] theorem refuseRead_wInc (s : State) : (refuseRead s).wInc = s.wInc := rfl
@[simp] theorem refuseRead_wNtaps (s : State) : (refuseRead s).wNtaps = s.wNtaps := rfl
@[simp] theorem refuseRead_wM (s : State) : (refuseRead s).wM = s.wM := rfl
@[simp] theorem refuseRead_inCount (s : State) : (refuseRead s).inCount = s.inCount := rfl
@[simp] theorem refuseRead_outCount (s : State) : (refuseRead s).outCount = s.outCount := rfl
@[simp] theorem refuseRead_outRate (s : State) : (refuseRead s).outRate = s.outRate := rfl
@[simp] theorem refuseRead_rateInexact (s : State) : (refuseRead s).rateInexact = s.rateInexact := rfl
@[simp] theorem refuseRead_firGain (s : State) : (refuseRead s).firGain = s.firGain := rfl
@[simp] theorem refuseRead_snap (s : State) : (refuseRead s).snap = s.snap := rfl
@[simp] theorem refuseRead_dcPx (s : State) : (refuseRead s).dcPx = s.dcPx := rfl
@[simp] theorem refuseRead_dcPy (s : State) : (refuseRead s).dcPy = s.dcPy := rfl
@[simp] theorem refuseRead_phi (s : State) : (refuseRead s).phi = s.phi := rfl
@[simp] theorem refuseRead_hist (s : State) : (refuseRead s).hist = s.hist := rfl
@[simp] theorem refuseRead_decCnt (s : State) : (refuseRead s).decCnt = s.decCnt := rfl
@[simp] theorem refuseRead_demPrev (s : State) : (refuseRead s).demPrev = s.demPrev := rfl
@[simp] theorem refuseRead_demHasPrev (s : State) : (refuseRead s).demHasPrev = s.demHasPrev := rfl
@[simp] theorem refuseRead_demKept (s : State) : (refuseRead s).demKept = s.demKept := rfl
@[simp] theorem refuseRead_queue (s : State) : (refuseRead s).queue = s.queue := rfl
@[simp] theorem refuseRead_taps (s : State) : (refuseRead s).taps = s.taps := rfl
@[simp] theorem refuseRead_offered (s : State) : (refuseRead s).offered = s.offered := rfl
@[simp] theorem refuseRead_result (s : State) : (refuseRead s).result = .read 0#32 .slverr := rfl
@[simp] theorem refuseRead_build (s : State) : (refuseRead s).build = s.build := rfl

/-! refuseWrite -/

@[simp] theorem refuseWrite_runState (s : State) : (refuseWrite s).runState = s.runState := rfl
@[simp] theorem refuseWrite_errCause (s : State) : (refuseWrite s).errCause = s.errCause := rfl
@[simp] theorem refuseWrite_errIndex (s : State) : (refuseWrite s).errIndex = s.errIndex := rfl
@[simp] theorem refuseWrite_irqStatus (s : State) : (refuseWrite s).irqStatus = s.irqStatus := rfl
@[simp] theorem refuseWrite_irqEnable (s : State) : (refuseWrite s).irqEnable = s.irqEnable := rfl
@[simp] theorem refuseWrite_sampleRate (s : State) : (refuseWrite s).sampleRate = s.sampleRate := rfl
@[simp] theorem refuseWrite_decimM (s : State) : (refuseWrite s).decimM = s.decimM := rfl
@[simp] theorem refuseWrite_dcAlpha (s : State) : (refuseWrite s).dcAlpha = s.dcAlpha := rfl
@[simp] theorem refuseWrite_mixFreq (s : State) : (refuseWrite s).mixFreq = s.mixFreq := rfl
@[simp] theorem refuseWrite_firNtaps (s : State) : (refuseWrite s).firNtaps = s.firNtaps := rfl
@[simp] theorem refuseWrite_tapAddr (s : State) : (refuseWrite s).tapAddr = s.tapAddr := rfl
@[simp] theorem refuseWrite_tapWlo (s : State) : (refuseWrite s).tapWlo = s.tapWlo := rfl
@[simp] theorem refuseWrite_tapRhi (s : State) : (refuseWrite s).tapRhi = s.tapRhi := rfl
@[simp] theorem refuseWrite_wAlpha (s : State) : (refuseWrite s).wAlpha = s.wAlpha := rfl
@[simp] theorem refuseWrite_wInc (s : State) : (refuseWrite s).wInc = s.wInc := rfl
@[simp] theorem refuseWrite_wNtaps (s : State) : (refuseWrite s).wNtaps = s.wNtaps := rfl
@[simp] theorem refuseWrite_wM (s : State) : (refuseWrite s).wM = s.wM := rfl
@[simp] theorem refuseWrite_inCount (s : State) : (refuseWrite s).inCount = s.inCount := rfl
@[simp] theorem refuseWrite_outCount (s : State) : (refuseWrite s).outCount = s.outCount := rfl
@[simp] theorem refuseWrite_outRate (s : State) : (refuseWrite s).outRate = s.outRate := rfl
@[simp] theorem refuseWrite_rateInexact (s : State) : (refuseWrite s).rateInexact = s.rateInexact := rfl
@[simp] theorem refuseWrite_firGain (s : State) : (refuseWrite s).firGain = s.firGain := rfl
@[simp] theorem refuseWrite_snap (s : State) : (refuseWrite s).snap = s.snap := rfl
@[simp] theorem refuseWrite_dcPx (s : State) : (refuseWrite s).dcPx = s.dcPx := rfl
@[simp] theorem refuseWrite_dcPy (s : State) : (refuseWrite s).dcPy = s.dcPy := rfl
@[simp] theorem refuseWrite_phi (s : State) : (refuseWrite s).phi = s.phi := rfl
@[simp] theorem refuseWrite_hist (s : State) : (refuseWrite s).hist = s.hist := rfl
@[simp] theorem refuseWrite_decCnt (s : State) : (refuseWrite s).decCnt = s.decCnt := rfl
@[simp] theorem refuseWrite_demPrev (s : State) : (refuseWrite s).demPrev = s.demPrev := rfl
@[simp] theorem refuseWrite_demHasPrev (s : State) : (refuseWrite s).demHasPrev = s.demHasPrev := rfl
@[simp] theorem refuseWrite_demKept (s : State) : (refuseWrite s).demKept = s.demKept := rfl
@[simp] theorem refuseWrite_queue (s : State) : (refuseWrite s).queue = s.queue := rfl
@[simp] theorem refuseWrite_taps (s : State) : (refuseWrite s).taps = s.taps := rfl
@[simp] theorem refuseWrite_offered (s : State) : (refuseWrite s).offered = s.offered := rfl
@[simp] theorem refuseWrite_result (s : State) : (refuseWrite s).result = .written .slverr := rfl
@[simp] theorem refuseWrite_build (s : State) : (refuseWrite s).build = s.build := rfl

/-! answerLive -/

@[simp] theorem answerLive_runState (v : BitVec 64) (s : State) : (answerLive v s).runState = s.runState := rfl
@[simp] theorem answerLive_errCause (v : BitVec 64) (s : State) : (answerLive v s).errCause = s.errCause := rfl
@[simp] theorem answerLive_errIndex (v : BitVec 64) (s : State) : (answerLive v s).errIndex = s.errIndex := rfl
@[simp] theorem answerLive_irqStatus (v : BitVec 64) (s : State) : (answerLive v s).irqStatus = s.irqStatus := rfl
@[simp] theorem answerLive_irqEnable (v : BitVec 64) (s : State) : (answerLive v s).irqEnable = s.irqEnable := rfl
@[simp] theorem answerLive_sampleRate (v : BitVec 64) (s : State) : (answerLive v s).sampleRate = s.sampleRate := rfl
@[simp] theorem answerLive_decimM (v : BitVec 64) (s : State) : (answerLive v s).decimM = s.decimM := rfl
@[simp] theorem answerLive_dcAlpha (v : BitVec 64) (s : State) : (answerLive v s).dcAlpha = s.dcAlpha := rfl
@[simp] theorem answerLive_mixFreq (v : BitVec 64) (s : State) : (answerLive v s).mixFreq = s.mixFreq := rfl
@[simp] theorem answerLive_firNtaps (v : BitVec 64) (s : State) : (answerLive v s).firNtaps = s.firNtaps := rfl
@[simp] theorem answerLive_tapAddr (v : BitVec 64) (s : State) : (answerLive v s).tapAddr = s.tapAddr := rfl
@[simp] theorem answerLive_tapWlo (v : BitVec 64) (s : State) : (answerLive v s).tapWlo = s.tapWlo := rfl
@[simp] theorem answerLive_tapRhi (v : BitVec 64) (s : State) : (answerLive v s).tapRhi = s.tapRhi := rfl
@[simp] theorem answerLive_wAlpha (v : BitVec 64) (s : State) : (answerLive v s).wAlpha = s.wAlpha := rfl
@[simp] theorem answerLive_wInc (v : BitVec 64) (s : State) : (answerLive v s).wInc = s.wInc := rfl
@[simp] theorem answerLive_wNtaps (v : BitVec 64) (s : State) : (answerLive v s).wNtaps = s.wNtaps := rfl
@[simp] theorem answerLive_wM (v : BitVec 64) (s : State) : (answerLive v s).wM = s.wM := rfl
@[simp] theorem answerLive_inCount (v : BitVec 64) (s : State) : (answerLive v s).inCount = s.inCount := rfl
@[simp] theorem answerLive_outCount (v : BitVec 64) (s : State) : (answerLive v s).outCount = s.outCount := rfl
@[simp] theorem answerLive_outRate (v : BitVec 64) (s : State) : (answerLive v s).outRate = s.outRate := rfl
@[simp] theorem answerLive_rateInexact (v : BitVec 64) (s : State) : (answerLive v s).rateInexact = s.rateInexact := rfl
@[simp] theorem answerLive_firGain (v : BitVec 64) (s : State) : (answerLive v s).firGain = s.firGain := rfl
@[simp] theorem answerLive_snap (v : BitVec 64) (s : State) : (answerLive v s).snap = hi32 v := rfl
@[simp] theorem answerLive_dcPx (v : BitVec 64) (s : State) : (answerLive v s).dcPx = s.dcPx := rfl
@[simp] theorem answerLive_dcPy (v : BitVec 64) (s : State) : (answerLive v s).dcPy = s.dcPy := rfl
@[simp] theorem answerLive_phi (v : BitVec 64) (s : State) : (answerLive v s).phi = s.phi := rfl
@[simp] theorem answerLive_hist (v : BitVec 64) (s : State) : (answerLive v s).hist = s.hist := rfl
@[simp] theorem answerLive_decCnt (v : BitVec 64) (s : State) : (answerLive v s).decCnt = s.decCnt := rfl
@[simp] theorem answerLive_demPrev (v : BitVec 64) (s : State) : (answerLive v s).demPrev = s.demPrev := rfl
@[simp] theorem answerLive_demHasPrev (v : BitVec 64) (s : State) : (answerLive v s).demHasPrev = s.demHasPrev := rfl
@[simp] theorem answerLive_demKept (v : BitVec 64) (s : State) : (answerLive v s).demKept = s.demKept := rfl
@[simp] theorem answerLive_queue (v : BitVec 64) (s : State) : (answerLive v s).queue = s.queue := rfl
@[simp] theorem answerLive_taps (v : BitVec 64) (s : State) : (answerLive v s).taps = s.taps := rfl
@[simp] theorem answerLive_offered (v : BitVec 64) (s : State) : (answerLive v s).offered = s.offered := rfl
@[simp] theorem answerLive_result (v : BitVec 64) (s : State) : (answerLive v s).result = .read (lo32 v) .okay := rfl
@[simp] theorem answerLive_build (v : BitVec 64) (s : State) : (answerLive v s).build = s.build := rfl

/-! keepOffered -/

@[simp] theorem keepOffered_runState (t : Txn) (s : State) : (keepOffered t s).runState = s.runState := rfl
@[simp] theorem keepOffered_errCause (t : Txn) (s : State) : (keepOffered t s).errCause = s.errCause := rfl
@[simp] theorem keepOffered_errIndex (t : Txn) (s : State) : (keepOffered t s).errIndex = s.errIndex := rfl
@[simp] theorem keepOffered_irqStatus (t : Txn) (s : State) : (keepOffered t s).irqStatus = s.irqStatus := rfl
@[simp] theorem keepOffered_irqEnable (t : Txn) (s : State) : (keepOffered t s).irqEnable = s.irqEnable := rfl
@[simp] theorem keepOffered_sampleRate (t : Txn) (s : State) : (keepOffered t s).sampleRate = s.sampleRate := rfl
@[simp] theorem keepOffered_decimM (t : Txn) (s : State) : (keepOffered t s).decimM = s.decimM := rfl
@[simp] theorem keepOffered_dcAlpha (t : Txn) (s : State) : (keepOffered t s).dcAlpha = s.dcAlpha := rfl
@[simp] theorem keepOffered_mixFreq (t : Txn) (s : State) : (keepOffered t s).mixFreq = s.mixFreq := rfl
@[simp] theorem keepOffered_firNtaps (t : Txn) (s : State) : (keepOffered t s).firNtaps = s.firNtaps := rfl
@[simp] theorem keepOffered_tapAddr (t : Txn) (s : State) : (keepOffered t s).tapAddr = s.tapAddr := rfl
@[simp] theorem keepOffered_tapWlo (t : Txn) (s : State) : (keepOffered t s).tapWlo = s.tapWlo := rfl
@[simp] theorem keepOffered_tapRhi (t : Txn) (s : State) : (keepOffered t s).tapRhi = s.tapRhi := rfl
@[simp] theorem keepOffered_wAlpha (t : Txn) (s : State) : (keepOffered t s).wAlpha = s.wAlpha := rfl
@[simp] theorem keepOffered_wInc (t : Txn) (s : State) : (keepOffered t s).wInc = s.wInc := rfl
@[simp] theorem keepOffered_wNtaps (t : Txn) (s : State) : (keepOffered t s).wNtaps = s.wNtaps := rfl
@[simp] theorem keepOffered_wM (t : Txn) (s : State) : (keepOffered t s).wM = s.wM := rfl
@[simp] theorem keepOffered_inCount (t : Txn) (s : State) : (keepOffered t s).inCount = s.inCount := rfl
@[simp] theorem keepOffered_outCount (t : Txn) (s : State) : (keepOffered t s).outCount = s.outCount := rfl
@[simp] theorem keepOffered_outRate (t : Txn) (s : State) : (keepOffered t s).outRate = s.outRate := rfl
@[simp] theorem keepOffered_rateInexact (t : Txn) (s : State) : (keepOffered t s).rateInexact = s.rateInexact := rfl
@[simp] theorem keepOffered_firGain (t : Txn) (s : State) : (keepOffered t s).firGain = s.firGain := rfl
@[simp] theorem keepOffered_snap (t : Txn) (s : State) : (keepOffered t s).snap = s.snap := rfl
@[simp] theorem keepOffered_dcPx (t : Txn) (s : State) : (keepOffered t s).dcPx = s.dcPx := rfl
@[simp] theorem keepOffered_dcPy (t : Txn) (s : State) : (keepOffered t s).dcPy = s.dcPy := rfl
@[simp] theorem keepOffered_phi (t : Txn) (s : State) : (keepOffered t s).phi = s.phi := rfl
@[simp] theorem keepOffered_hist (t : Txn) (s : State) : (keepOffered t s).hist = s.hist := rfl
@[simp] theorem keepOffered_decCnt (t : Txn) (s : State) : (keepOffered t s).decCnt = s.decCnt := rfl
@[simp] theorem keepOffered_demPrev (t : Txn) (s : State) : (keepOffered t s).demPrev = s.demPrev := rfl
@[simp] theorem keepOffered_demHasPrev (t : Txn) (s : State) : (keepOffered t s).demHasPrev = s.demHasPrev := rfl
@[simp] theorem keepOffered_demKept (t : Txn) (s : State) : (keepOffered t s).demKept = s.demKept := rfl
@[simp] theorem keepOffered_queue (t : Txn) (s : State) : (keepOffered t s).queue = s.queue := rfl
@[simp] theorem keepOffered_taps (t : Txn) (s : State) : (keepOffered t s).taps = s.taps := rfl
@[simp] theorem keepOffered_offered (t : Txn) (s : State) : (keepOffered t s).offered = .txn t :: s.offered := rfl
@[simp] theorem keepOffered_result (t : Txn) (s : State) : (keepOffered t s).result = s.result := rfl
@[simp] theorem keepOffered_build (t : Txn) (s : State) : (keepOffered t s).build = s.build := rfl

/-! raiseFault -/

@[simp] theorem raiseFault_runState (cause detail : BitVec 4) (stage : BitVec 3) (index : U64) (s : State) : (raiseFault cause detail stage index s).runState = .fault := rfl
@[simp] theorem raiseFault_errCause (cause detail : BitVec 4) (stage : BitVec 3) (index : U64) (s : State) : (raiseFault cause detail stage index s).errCause = ⟨cause, detail, stage⟩ := rfl
@[simp] theorem raiseFault_errIndex (cause detail : BitVec 4) (stage : BitVec 3) (index : U64) (s : State) : (raiseFault cause detail stage index s).errIndex = index := rfl
@[simp] theorem raiseFault_irqStatus (cause detail : BitVec 4) (stage : BitVec 3) (index : U64) (s : State) : (raiseFault cause detail stage index s).irqStatus = setFault s.irqStatus := rfl
@[simp] theorem raiseFault_irqEnable (cause detail : BitVec 4) (stage : BitVec 3) (index : U64) (s : State) : (raiseFault cause detail stage index s).irqEnable = s.irqEnable := rfl
@[simp] theorem raiseFault_sampleRate (cause detail : BitVec 4) (stage : BitVec 3) (index : U64) (s : State) : (raiseFault cause detail stage index s).sampleRate = s.sampleRate := rfl
@[simp] theorem raiseFault_decimM (cause detail : BitVec 4) (stage : BitVec 3) (index : U64) (s : State) : (raiseFault cause detail stage index s).decimM = s.decimM := rfl
@[simp] theorem raiseFault_dcAlpha (cause detail : BitVec 4) (stage : BitVec 3) (index : U64) (s : State) : (raiseFault cause detail stage index s).dcAlpha = s.dcAlpha := rfl
@[simp] theorem raiseFault_mixFreq (cause detail : BitVec 4) (stage : BitVec 3) (index : U64) (s : State) : (raiseFault cause detail stage index s).mixFreq = s.mixFreq := rfl
@[simp] theorem raiseFault_firNtaps (cause detail : BitVec 4) (stage : BitVec 3) (index : U64) (s : State) : (raiseFault cause detail stage index s).firNtaps = s.firNtaps := rfl
@[simp] theorem raiseFault_tapAddr (cause detail : BitVec 4) (stage : BitVec 3) (index : U64) (s : State) : (raiseFault cause detail stage index s).tapAddr = s.tapAddr := rfl
@[simp] theorem raiseFault_tapWlo (cause detail : BitVec 4) (stage : BitVec 3) (index : U64) (s : State) : (raiseFault cause detail stage index s).tapWlo = s.tapWlo := rfl
@[simp] theorem raiseFault_tapRhi (cause detail : BitVec 4) (stage : BitVec 3) (index : U64) (s : State) : (raiseFault cause detail stage index s).tapRhi = s.tapRhi := rfl
@[simp] theorem raiseFault_wAlpha (cause detail : BitVec 4) (stage : BitVec 3) (index : U64) (s : State) : (raiseFault cause detail stage index s).wAlpha = s.wAlpha := rfl
@[simp] theorem raiseFault_wInc (cause detail : BitVec 4) (stage : BitVec 3) (index : U64) (s : State) : (raiseFault cause detail stage index s).wInc = s.wInc := rfl
@[simp] theorem raiseFault_wNtaps (cause detail : BitVec 4) (stage : BitVec 3) (index : U64) (s : State) : (raiseFault cause detail stage index s).wNtaps = s.wNtaps := rfl
@[simp] theorem raiseFault_wM (cause detail : BitVec 4) (stage : BitVec 3) (index : U64) (s : State) : (raiseFault cause detail stage index s).wM = s.wM := rfl
@[simp] theorem raiseFault_inCount (cause detail : BitVec 4) (stage : BitVec 3) (index : U64) (s : State) : (raiseFault cause detail stage index s).inCount = s.inCount := rfl
@[simp] theorem raiseFault_outCount (cause detail : BitVec 4) (stage : BitVec 3) (index : U64) (s : State) : (raiseFault cause detail stage index s).outCount = s.outCount := rfl
@[simp] theorem raiseFault_outRate (cause detail : BitVec 4) (stage : BitVec 3) (index : U64) (s : State) : (raiseFault cause detail stage index s).outRate = s.outRate := rfl
@[simp] theorem raiseFault_rateInexact (cause detail : BitVec 4) (stage : BitVec 3) (index : U64) (s : State) : (raiseFault cause detail stage index s).rateInexact = s.rateInexact := rfl
@[simp] theorem raiseFault_firGain (cause detail : BitVec 4) (stage : BitVec 3) (index : U64) (s : State) : (raiseFault cause detail stage index s).firGain = s.firGain := rfl
@[simp] theorem raiseFault_snap (cause detail : BitVec 4) (stage : BitVec 3) (index : U64) (s : State) : (raiseFault cause detail stage index s).snap = s.snap := rfl
@[simp] theorem raiseFault_dcPx (cause detail : BitVec 4) (stage : BitVec 3) (index : U64) (s : State) : (raiseFault cause detail stage index s).dcPx = s.dcPx := rfl
@[simp] theorem raiseFault_dcPy (cause detail : BitVec 4) (stage : BitVec 3) (index : U64) (s : State) : (raiseFault cause detail stage index s).dcPy = s.dcPy := rfl
@[simp] theorem raiseFault_phi (cause detail : BitVec 4) (stage : BitVec 3) (index : U64) (s : State) : (raiseFault cause detail stage index s).phi = s.phi := rfl
@[simp] theorem raiseFault_hist (cause detail : BitVec 4) (stage : BitVec 3) (index : U64) (s : State) : (raiseFault cause detail stage index s).hist = s.hist := rfl
@[simp] theorem raiseFault_decCnt (cause detail : BitVec 4) (stage : BitVec 3) (index : U64) (s : State) : (raiseFault cause detail stage index s).decCnt = s.decCnt := rfl
@[simp] theorem raiseFault_demPrev (cause detail : BitVec 4) (stage : BitVec 3) (index : U64) (s : State) : (raiseFault cause detail stage index s).demPrev = s.demPrev := rfl
@[simp] theorem raiseFault_demHasPrev (cause detail : BitVec 4) (stage : BitVec 3) (index : U64) (s : State) : (raiseFault cause detail stage index s).demHasPrev = s.demHasPrev := rfl
@[simp] theorem raiseFault_demKept (cause detail : BitVec 4) (stage : BitVec 3) (index : U64) (s : State) : (raiseFault cause detail stage index s).demKept = s.demKept := rfl
@[simp] theorem raiseFault_queue (cause detail : BitVec 4) (stage : BitVec 3) (index : U64) (s : State) : (raiseFault cause detail stage index s).queue = [] := rfl
@[simp] theorem raiseFault_taps (cause detail : BitVec 4) (stage : BitVec 3) (index : U64) (s : State) : (raiseFault cause detail stage index s).taps = s.taps := rfl
@[simp] theorem raiseFault_offered (cause detail : BitVec 4) (stage : BitVec 3) (index : U64) (s : State) : (raiseFault cause detail stage index s).offered = s.offered := rfl
@[simp] theorem raiseFault_result (cause detail : BitVec 4) (stage : BitVec 3) (index : U64) (s : State) : (raiseFault cause detail stage index s).result = s.result := rfl
@[simp] theorem raiseFault_build (cause detail : BitVec 4) (stage : BitVec 3) (index : U64) (s : State) : (raiseFault cause detail stage index s).build = s.build := rfl

/-! clearStages -/

@[simp] theorem clearStages_runState (mask : BitVec 5) (s : State) : (clearStages mask s).runState = s.runState := rfl
@[simp] theorem clearStages_errCause (mask : BitVec 5) (s : State) : (clearStages mask s).errCause = s.errCause := rfl
@[simp] theorem clearStages_errIndex (mask : BitVec 5) (s : State) : (clearStages mask s).errIndex = s.errIndex := rfl
@[simp] theorem clearStages_irqStatus (mask : BitVec 5) (s : State) : (clearStages mask s).irqStatus = s.irqStatus := rfl
@[simp] theorem clearStages_irqEnable (mask : BitVec 5) (s : State) : (clearStages mask s).irqEnable = s.irqEnable := rfl
@[simp] theorem clearStages_sampleRate (mask : BitVec 5) (s : State) : (clearStages mask s).sampleRate = s.sampleRate := rfl
@[simp] theorem clearStages_decimM (mask : BitVec 5) (s : State) : (clearStages mask s).decimM = s.decimM := rfl
@[simp] theorem clearStages_dcAlpha (mask : BitVec 5) (s : State) : (clearStages mask s).dcAlpha = s.dcAlpha := rfl
@[simp] theorem clearStages_mixFreq (mask : BitVec 5) (s : State) : (clearStages mask s).mixFreq = s.mixFreq := rfl
@[simp] theorem clearStages_firNtaps (mask : BitVec 5) (s : State) : (clearStages mask s).firNtaps = s.firNtaps := rfl
@[simp] theorem clearStages_tapAddr (mask : BitVec 5) (s : State) : (clearStages mask s).tapAddr = s.tapAddr := rfl
@[simp] theorem clearStages_tapWlo (mask : BitVec 5) (s : State) : (clearStages mask s).tapWlo = s.tapWlo := rfl
@[simp] theorem clearStages_tapRhi (mask : BitVec 5) (s : State) : (clearStages mask s).tapRhi = s.tapRhi := rfl
@[simp] theorem clearStages_wAlpha (mask : BitVec 5) (s : State) : (clearStages mask s).wAlpha = s.wAlpha := rfl
@[simp] theorem clearStages_wInc (mask : BitVec 5) (s : State) : (clearStages mask s).wInc = s.wInc := rfl
@[simp] theorem clearStages_wNtaps (mask : BitVec 5) (s : State) : (clearStages mask s).wNtaps = s.wNtaps := rfl
@[simp] theorem clearStages_wM (mask : BitVec 5) (s : State) : (clearStages mask s).wM = s.wM := rfl
@[simp] theorem clearStages_inCount (mask : BitVec 5) (s : State) : (clearStages mask s).inCount = s.inCount := rfl
@[simp] theorem clearStages_outCount (mask : BitVec 5) (s : State) : (clearStages mask s).outCount = s.outCount := rfl
@[simp] theorem clearStages_outRate (mask : BitVec 5) (s : State) : (clearStages mask s).outRate = s.outRate := rfl
@[simp] theorem clearStages_rateInexact (mask : BitVec 5) (s : State) : (clearStages mask s).rateInexact = s.rateInexact := rfl
@[simp] theorem clearStages_firGain (mask : BitVec 5) (s : State) : (clearStages mask s).firGain = s.firGain := rfl
@[simp] theorem clearStages_snap (mask : BitVec 5) (s : State) : (clearStages mask s).snap = s.snap := rfl
@[simp] theorem clearStages_dcPx (mask : BitVec 5) (s : State) : (clearStages mask s).dcPx = if mask.getLsbD 0 then czero else s.dcPx := rfl
@[simp] theorem clearStages_dcPy (mask : BitVec 5) (s : State) : (clearStages mask s).dcPy = if mask.getLsbD 0 then czero else s.dcPy := rfl
@[simp] theorem clearStages_phi (mask : BitVec 5) (s : State) : (clearStages mask s).phi = if mask.getLsbD 1 then zero64 else s.phi := rfl
@[simp] theorem clearStages_hist (mask : BitVec 5) (s : State) : (clearStages mask s).hist = if mask.getLsbD 2 then [] else s.hist := rfl
@[simp] theorem clearStages_decCnt (mask : BitVec 5) (s : State) : (clearStages mask s).decCnt = if mask.getLsbD 3 then 0#32 else s.decCnt := rfl
@[simp] theorem clearStages_demPrev (mask : BitVec 5) (s : State) : (clearStages mask s).demPrev = if mask.getLsbD 4 then czero else s.demPrev := rfl
@[simp] theorem clearStages_demHasPrev (mask : BitVec 5) (s : State) : (clearStages mask s).demHasPrev = if mask.getLsbD 4 then false else s.demHasPrev := rfl
@[simp] theorem clearStages_demKept (mask : BitVec 5) (s : State) : (clearStages mask s).demKept = if mask.getLsbD 4 then 0 else s.demKept := rfl
@[simp] theorem clearStages_queue (mask : BitVec 5) (s : State) : (clearStages mask s).queue = s.queue := rfl
@[simp] theorem clearStages_taps (mask : BitVec 5) (s : State) : (clearStages mask s).taps = s.taps := rfl
@[simp] theorem clearStages_offered (mask : BitVec 5) (s : State) : (clearStages mask s).offered = s.offered := rfl
@[simp] theorem clearStages_result (mask : BitVec 5) (s : State) : (clearStages mask s).result = s.result := rfl
@[simp] theorem clearStages_build (mask : BitVec 5) (s : State) : (clearStages mask s).build = s.build := rfl

/-! startClear -/

@[simp] theorem startClear_runState (s : State) : (startClear s).runState = s.runState := rfl
@[simp] theorem startClear_errCause (s : State) : (startClear s).errCause = ⟨0#4, 0#4, 0#3⟩ := rfl
@[simp] theorem startClear_errIndex (s : State) : (startClear s).errIndex = 0#64 := rfl
@[simp] theorem startClear_irqStatus (s : State) : (startClear s).irqStatus = s.irqStatus := rfl
@[simp] theorem startClear_irqEnable (s : State) : (startClear s).irqEnable = s.irqEnable := rfl
@[simp] theorem startClear_sampleRate (s : State) : (startClear s).sampleRate = s.sampleRate := rfl
@[simp] theorem startClear_decimM (s : State) : (startClear s).decimM = s.decimM := rfl
@[simp] theorem startClear_dcAlpha (s : State) : (startClear s).dcAlpha = s.dcAlpha := rfl
@[simp] theorem startClear_mixFreq (s : State) : (startClear s).mixFreq = s.mixFreq := rfl
@[simp] theorem startClear_firNtaps (s : State) : (startClear s).firNtaps = s.firNtaps := rfl
@[simp] theorem startClear_tapAddr (s : State) : (startClear s).tapAddr = s.tapAddr := rfl
@[simp] theorem startClear_tapWlo (s : State) : (startClear s).tapWlo = s.tapWlo := rfl
@[simp] theorem startClear_tapRhi (s : State) : (startClear s).tapRhi = s.tapRhi := rfl
@[simp] theorem startClear_wAlpha (s : State) : (startClear s).wAlpha = s.wAlpha := rfl
@[simp] theorem startClear_wInc (s : State) : (startClear s).wInc = s.wInc := rfl
@[simp] theorem startClear_wNtaps (s : State) : (startClear s).wNtaps = s.wNtaps := rfl
@[simp] theorem startClear_wM (s : State) : (startClear s).wM = s.wM := rfl
@[simp] theorem startClear_inCount (s : State) : (startClear s).inCount = 0#64 := rfl
@[simp] theorem startClear_outCount (s : State) : (startClear s).outCount = 0#64 := rfl
@[simp] theorem startClear_outRate (s : State) : (startClear s).outRate = s.outRate := rfl
@[simp] theorem startClear_rateInexact (s : State) : (startClear s).rateInexact = s.rateInexact := rfl
@[simp] theorem startClear_firGain (s : State) : (startClear s).firGain = s.firGain := rfl
@[simp] theorem startClear_snap (s : State) : (startClear s).snap = s.snap := rfl
@[simp] theorem startClear_dcPx (s : State) : (startClear s).dcPx = czero := rfl
@[simp] theorem startClear_dcPy (s : State) : (startClear s).dcPy = czero := rfl
@[simp] theorem startClear_phi (s : State) : (startClear s).phi = zero64 := rfl
@[simp] theorem startClear_hist (s : State) : (startClear s).hist = [] := rfl
@[simp] theorem startClear_decCnt (s : State) : (startClear s).decCnt = 0#32 := rfl
@[simp] theorem startClear_demPrev (s : State) : (startClear s).demPrev = czero := rfl
@[simp] theorem startClear_demHasPrev (s : State) : (startClear s).demHasPrev = false := rfl
@[simp] theorem startClear_demKept (s : State) : (startClear s).demKept = 0 := rfl
@[simp] theorem startClear_queue (s : State) : (startClear s).queue = [] := rfl
@[simp] theorem startClear_taps (s : State) : (startClear s).taps = s.taps := rfl
@[simp] theorem startClear_offered (s : State) : (startClear s).offered = s.offered := rfl
@[simp] theorem startClear_result (s : State) : (startClear s).result = s.result := rfl
@[simp] theorem startClear_build (s : State) : (startClear s).build = s.build := rfl

/-! startRun -/

@[simp] theorem startRun_runState (inc : F64) (s : State) : (startRun inc s).runState = .run := rfl
@[simp] theorem startRun_errCause (inc : F64) (s : State) : (startRun inc s).errCause = s.errCause := rfl
@[simp] theorem startRun_errIndex (inc : F64) (s : State) : (startRun inc s).errIndex = s.errIndex := rfl
@[simp] theorem startRun_irqStatus (inc : F64) (s : State) : (startRun inc s).irqStatus = s.irqStatus := rfl
@[simp] theorem startRun_irqEnable (inc : F64) (s : State) : (startRun inc s).irqEnable = s.irqEnable := rfl
@[simp] theorem startRun_sampleRate (inc : F64) (s : State) : (startRun inc s).sampleRate = s.sampleRate := rfl
@[simp] theorem startRun_decimM (inc : F64) (s : State) : (startRun inc s).decimM = s.decimM := rfl
@[simp] theorem startRun_dcAlpha (inc : F64) (s : State) : (startRun inc s).dcAlpha = s.dcAlpha := rfl
@[simp] theorem startRun_mixFreq (inc : F64) (s : State) : (startRun inc s).mixFreq = s.mixFreq := rfl
@[simp] theorem startRun_firNtaps (inc : F64) (s : State) : (startRun inc s).firNtaps = s.firNtaps := rfl
@[simp] theorem startRun_tapAddr (inc : F64) (s : State) : (startRun inc s).tapAddr = s.tapAddr := rfl
@[simp] theorem startRun_tapWlo (inc : F64) (s : State) : (startRun inc s).tapWlo = s.tapWlo := rfl
@[simp] theorem startRun_tapRhi (inc : F64) (s : State) : (startRun inc s).tapRhi = s.tapRhi := rfl
@[simp] theorem startRun_wAlpha (inc : F64) (s : State) : (startRun inc s).wAlpha = s.dcAlpha := rfl
@[simp] theorem startRun_wInc (inc : F64) (s : State) : (startRun inc s).wInc = inc := rfl
@[simp] theorem startRun_wNtaps (inc : F64) (s : State) : (startRun inc s).wNtaps = s.firNtaps := rfl
@[simp] theorem startRun_wM (inc : F64) (s : State) : (startRun inc s).wM = s.decimM := rfl
@[simp] theorem startRun_inCount (inc : F64) (s : State) : (startRun inc s).inCount = s.inCount := rfl
@[simp] theorem startRun_outCount (inc : F64) (s : State) : (startRun inc s).outCount = s.outCount := rfl
@[simp] theorem startRun_outRate (inc : F64) (s : State) : (startRun inc s).outRate = s.sampleRate / s.decimM := rfl
@[simp] theorem startRun_rateInexact (inc : F64) (s : State) : (startRun inc s).rateInexact = decide (s.sampleRate % s.decimM ≠ 0#32) := rfl
@[simp] theorem startRun_firGain (inc : F64) (s : State) : (startRun inc s).firGain = firGainSum (tapRead s.taps) s.firNtaps.toNat := rfl
@[simp] theorem startRun_snap (inc : F64) (s : State) : (startRun inc s).snap = s.snap := rfl
@[simp] theorem startRun_dcPx (inc : F64) (s : State) : (startRun inc s).dcPx = s.dcPx := rfl
@[simp] theorem startRun_dcPy (inc : F64) (s : State) : (startRun inc s).dcPy = s.dcPy := rfl
@[simp] theorem startRun_phi (inc : F64) (s : State) : (startRun inc s).phi = s.phi := rfl
@[simp] theorem startRun_hist (inc : F64) (s : State) : (startRun inc s).hist = s.hist := rfl
@[simp] theorem startRun_decCnt (inc : F64) (s : State) : (startRun inc s).decCnt = s.decCnt := rfl
@[simp] theorem startRun_demPrev (inc : F64) (s : State) : (startRun inc s).demPrev = s.demPrev := rfl
@[simp] theorem startRun_demHasPrev (inc : F64) (s : State) : (startRun inc s).demHasPrev = s.demHasPrev := rfl
@[simp] theorem startRun_demKept (inc : F64) (s : State) : (startRun inc s).demKept = s.demKept := rfl
@[simp] theorem startRun_queue (inc : F64) (s : State) : (startRun inc s).queue = s.queue := rfl
@[simp] theorem startRun_taps (inc : F64) (s : State) : (startRun inc s).taps = s.taps := rfl
@[simp] theorem startRun_offered (inc : F64) (s : State) : (startRun inc s).offered = s.offered := rfl
@[simp] theorem startRun_result (inc : F64) (s : State) : (startRun inc s).result = s.result := rfl
@[simp] theorem startRun_build (inc : F64) (s : State) : (startRun inc s).build = s.build := rfl

/-! countBeat -/

@[simp] theorem countBeat_runState (s : State) : (countBeat s).runState = s.runState := rfl
@[simp] theorem countBeat_errCause (s : State) : (countBeat s).errCause = s.errCause := rfl
@[simp] theorem countBeat_errIndex (s : State) : (countBeat s).errIndex = s.errIndex := rfl
@[simp] theorem countBeat_irqStatus (s : State) : (countBeat s).irqStatus = s.irqStatus := rfl
@[simp] theorem countBeat_irqEnable (s : State) : (countBeat s).irqEnable = s.irqEnable := rfl
@[simp] theorem countBeat_sampleRate (s : State) : (countBeat s).sampleRate = s.sampleRate := rfl
@[simp] theorem countBeat_decimM (s : State) : (countBeat s).decimM = s.decimM := rfl
@[simp] theorem countBeat_dcAlpha (s : State) : (countBeat s).dcAlpha = s.dcAlpha := rfl
@[simp] theorem countBeat_mixFreq (s : State) : (countBeat s).mixFreq = s.mixFreq := rfl
@[simp] theorem countBeat_firNtaps (s : State) : (countBeat s).firNtaps = s.firNtaps := rfl
@[simp] theorem countBeat_tapAddr (s : State) : (countBeat s).tapAddr = s.tapAddr := rfl
@[simp] theorem countBeat_tapWlo (s : State) : (countBeat s).tapWlo = s.tapWlo := rfl
@[simp] theorem countBeat_tapRhi (s : State) : (countBeat s).tapRhi = s.tapRhi := rfl
@[simp] theorem countBeat_wAlpha (s : State) : (countBeat s).wAlpha = s.wAlpha := rfl
@[simp] theorem countBeat_wInc (s : State) : (countBeat s).wInc = s.wInc := rfl
@[simp] theorem countBeat_wNtaps (s : State) : (countBeat s).wNtaps = s.wNtaps := rfl
@[simp] theorem countBeat_wM (s : State) : (countBeat s).wM = s.wM := rfl
@[simp] theorem countBeat_inCount (s : State) : (countBeat s).inCount = s.inCount + 1#64 := rfl
@[simp] theorem countBeat_outCount (s : State) : (countBeat s).outCount = s.outCount := rfl
@[simp] theorem countBeat_outRate (s : State) : (countBeat s).outRate = s.outRate := rfl
@[simp] theorem countBeat_rateInexact (s : State) : (countBeat s).rateInexact = s.rateInexact := rfl
@[simp] theorem countBeat_firGain (s : State) : (countBeat s).firGain = s.firGain := rfl
@[simp] theorem countBeat_snap (s : State) : (countBeat s).snap = s.snap := rfl
@[simp] theorem countBeat_dcPx (s : State) : (countBeat s).dcPx = s.dcPx := rfl
@[simp] theorem countBeat_dcPy (s : State) : (countBeat s).dcPy = s.dcPy := rfl
@[simp] theorem countBeat_phi (s : State) : (countBeat s).phi = s.phi := rfl
@[simp] theorem countBeat_hist (s : State) : (countBeat s).hist = s.hist := rfl
@[simp] theorem countBeat_decCnt (s : State) : (countBeat s).decCnt = s.decCnt := rfl
@[simp] theorem countBeat_demPrev (s : State) : (countBeat s).demPrev = s.demPrev := rfl
@[simp] theorem countBeat_demHasPrev (s : State) : (countBeat s).demHasPrev = s.demHasPrev := rfl
@[simp] theorem countBeat_demKept (s : State) : (countBeat s).demKept = s.demKept := rfl
@[simp] theorem countBeat_queue (s : State) : (countBeat s).queue = s.queue := rfl
@[simp] theorem countBeat_taps (s : State) : (countBeat s).taps = s.taps := rfl
@[simp] theorem countBeat_offered (s : State) : (countBeat s).offered = s.offered := rfl
@[simp] theorem countBeat_result (s : State) : (countBeat s).result = .accepted := rfl
@[simp] theorem countBeat_build (s : State) : (countBeat s).build = s.build := rfl

/-! commitBeat -/

@[simp] theorem commitBeat_runState (x y m : Cplx) (d : DemNext) (s : State) : (commitBeat x y m d s).runState = s.runState := rfl
@[simp] theorem commitBeat_errCause (x y m : Cplx) (d : DemNext) (s : State) : (commitBeat x y m d s).errCause = s.errCause := rfl
@[simp] theorem commitBeat_errIndex (x y m : Cplx) (d : DemNext) (s : State) : (commitBeat x y m d s).errIndex = s.errIndex := rfl
@[simp] theorem commitBeat_irqStatus (x y m : Cplx) (d : DemNext) (s : State) : (commitBeat x y m d s).irqStatus = s.irqStatus := rfl
@[simp] theorem commitBeat_irqEnable (x y m : Cplx) (d : DemNext) (s : State) : (commitBeat x y m d s).irqEnable = s.irqEnable := rfl
@[simp] theorem commitBeat_sampleRate (x y m : Cplx) (d : DemNext) (s : State) : (commitBeat x y m d s).sampleRate = s.sampleRate := rfl
@[simp] theorem commitBeat_decimM (x y m : Cplx) (d : DemNext) (s : State) : (commitBeat x y m d s).decimM = s.decimM := rfl
@[simp] theorem commitBeat_dcAlpha (x y m : Cplx) (d : DemNext) (s : State) : (commitBeat x y m d s).dcAlpha = s.dcAlpha := rfl
@[simp] theorem commitBeat_mixFreq (x y m : Cplx) (d : DemNext) (s : State) : (commitBeat x y m d s).mixFreq = s.mixFreq := rfl
@[simp] theorem commitBeat_firNtaps (x y m : Cplx) (d : DemNext) (s : State) : (commitBeat x y m d s).firNtaps = s.firNtaps := rfl
@[simp] theorem commitBeat_tapAddr (x y m : Cplx) (d : DemNext) (s : State) : (commitBeat x y m d s).tapAddr = s.tapAddr := rfl
@[simp] theorem commitBeat_tapWlo (x y m : Cplx) (d : DemNext) (s : State) : (commitBeat x y m d s).tapWlo = s.tapWlo := rfl
@[simp] theorem commitBeat_tapRhi (x y m : Cplx) (d : DemNext) (s : State) : (commitBeat x y m d s).tapRhi = s.tapRhi := rfl
@[simp] theorem commitBeat_wAlpha (x y m : Cplx) (d : DemNext) (s : State) : (commitBeat x y m d s).wAlpha = s.wAlpha := rfl
@[simp] theorem commitBeat_wInc (x y m : Cplx) (d : DemNext) (s : State) : (commitBeat x y m d s).wInc = s.wInc := rfl
@[simp] theorem commitBeat_wNtaps (x y m : Cplx) (d : DemNext) (s : State) : (commitBeat x y m d s).wNtaps = s.wNtaps := rfl
@[simp] theorem commitBeat_wM (x y m : Cplx) (d : DemNext) (s : State) : (commitBeat x y m d s).wM = s.wM := rfl
@[simp] theorem commitBeat_inCount (x y m : Cplx) (d : DemNext) (s : State) : (commitBeat x y m d s).inCount = s.inCount := rfl
@[simp] theorem commitBeat_outCount (x y m : Cplx) (d : DemNext) (s : State) : (commitBeat x y m d s).outCount = if d.out.isSome then s.outCount + 1#64 else s.outCount := rfl
@[simp] theorem commitBeat_outRate (x y m : Cplx) (d : DemNext) (s : State) : (commitBeat x y m d s).outRate = s.outRate := rfl
@[simp] theorem commitBeat_rateInexact (x y m : Cplx) (d : DemNext) (s : State) : (commitBeat x y m d s).rateInexact = s.rateInexact := rfl
@[simp] theorem commitBeat_firGain (x y m : Cplx) (d : DemNext) (s : State) : (commitBeat x y m d s).firGain = s.firGain := rfl
@[simp] theorem commitBeat_snap (x y m : Cplx) (d : DemNext) (s : State) : (commitBeat x y m d s).snap = s.snap := rfl
@[simp] theorem commitBeat_dcPx (x y m : Cplx) (d : DemNext) (s : State) : (commitBeat x y m d s).dcPx = x := rfl
@[simp] theorem commitBeat_dcPy (x y m : Cplx) (d : DemNext) (s : State) : (commitBeat x y m d s).dcPy = y := rfl
@[simp] theorem commitBeat_phi (x y m : Cplx) (d : DemNext) (s : State) : (commitBeat x y m d s).phi = ncoNext s.phi s.wInc := rfl
@[simp] theorem commitBeat_hist (x y m : Cplx) (d : DemNext) (s : State) : (commitBeat x y m d s).hist = histPush s.wNtaps.toNat m s.hist := rfl
@[simp] theorem commitBeat_decCnt (x y m : Cplx) (d : DemNext) (s : State) : (commitBeat x y m d s).decCnt = decNext s.decCnt s.wM := rfl
@[simp] theorem commitBeat_demPrev (x y m : Cplx) (d : DemNext) (s : State) : (commitBeat x y m d s).demPrev = d.prev := rfl
@[simp] theorem commitBeat_demHasPrev (x y m : Cplx) (d : DemNext) (s : State) : (commitBeat x y m d s).demHasPrev = d.hasPrev := rfl
@[simp] theorem commitBeat_demKept (x y m : Cplx) (d : DemNext) (s : State) : (commitBeat x y m d s).demKept = d.kept := rfl
@[simp] theorem commitBeat_queue (x y m : Cplx) (d : DemNext) (s : State) : (commitBeat x y m d s).queue = s.queue ++ d.out.toList := rfl
@[simp] theorem commitBeat_taps (x y m : Cplx) (d : DemNext) (s : State) : (commitBeat x y m d s).taps = s.taps := rfl
@[simp] theorem commitBeat_offered (x y m : Cplx) (d : DemNext) (s : State) : (commitBeat x y m d s).offered = s.offered := rfl
@[simp] theorem commitBeat_result (x y m : Cplx) (d : DemNext) (s : State) : (commitBeat x y m d s).result = s.result := rfl
@[simp] theorem commitBeat_build (x y m : Cplx) (d : DemNext) (s : State) : (commitBeat x y m d s).build = s.build := rfl

/-! takeReset -/

@[simp] theorem takeReset_runState (s : State) : (takeReset s).runState = .idle := rfl
@[simp] theorem takeReset_errCause (s : State) : (takeReset s).errCause = ⟨0, 0, 0⟩ := rfl
@[simp] theorem takeReset_errIndex (s : State) : (takeReset s).errIndex = 0 := rfl
@[simp] theorem takeReset_irqStatus (s : State) : (takeReset s).irqStatus = 0 := rfl
@[simp] theorem takeReset_irqEnable (s : State) : (takeReset s).irqEnable = 0 := rfl
@[simp] theorem takeReset_sampleRate (s : State) : (takeReset s).sampleRate = 0 := rfl
@[simp] theorem takeReset_decimM (s : State) : (takeReset s).decimM = 1 := rfl
@[simp] theorem takeReset_dcAlpha (s : State) : (takeReset s).dcAlpha = 0x3FEFAE147AE147AE := rfl
@[simp] theorem takeReset_mixFreq (s : State) : (takeReset s).mixFreq = zero64 := rfl
@[simp] theorem takeReset_firNtaps (s : State) : (takeReset s).firNtaps = 0 := rfl
@[simp] theorem takeReset_tapAddr (s : State) : (takeReset s).tapAddr = 0 := rfl
@[simp] theorem takeReset_tapWlo (s : State) : (takeReset s).tapWlo = 0 := rfl
@[simp] theorem takeReset_tapRhi (s : State) : (takeReset s).tapRhi = 0 := rfl
@[simp] theorem takeReset_wAlpha (s : State) : (takeReset s).wAlpha = zero64 := rfl
@[simp] theorem takeReset_wInc (s : State) : (takeReset s).wInc = zero64 := rfl
@[simp] theorem takeReset_wNtaps (s : State) : (takeReset s).wNtaps = 0 := rfl
@[simp] theorem takeReset_wM (s : State) : (takeReset s).wM = 1 := rfl
@[simp] theorem takeReset_inCount (s : State) : (takeReset s).inCount = 0 := rfl
@[simp] theorem takeReset_outCount (s : State) : (takeReset s).outCount = 0 := rfl
@[simp] theorem takeReset_outRate (s : State) : (takeReset s).outRate = 0 := rfl
@[simp] theorem takeReset_rateInexact (s : State) : (takeReset s).rateInexact = false := rfl
@[simp] theorem takeReset_firGain (s : State) : (takeReset s).firGain = zero64 := rfl
@[simp] theorem takeReset_snap (s : State) : (takeReset s).snap = 0 := rfl
@[simp] theorem takeReset_dcPx (s : State) : (takeReset s).dcPx = czero := rfl
@[simp] theorem takeReset_dcPy (s : State) : (takeReset s).dcPy = czero := rfl
@[simp] theorem takeReset_phi (s : State) : (takeReset s).phi = zero64 := rfl
@[simp] theorem takeReset_hist (s : State) : (takeReset s).hist = [] := rfl
@[simp] theorem takeReset_decCnt (s : State) : (takeReset s).decCnt = 0 := rfl
@[simp] theorem takeReset_demPrev (s : State) : (takeReset s).demPrev = czero := rfl
@[simp] theorem takeReset_demHasPrev (s : State) : (takeReset s).demHasPrev = false := rfl
@[simp] theorem takeReset_demKept (s : State) : (takeReset s).demKept = 0 := rfl
@[simp] theorem takeReset_queue (s : State) : (takeReset s).queue = [] := rfl
@[simp] theorem takeReset_taps (s : State) : (takeReset s).taps = s.taps := rfl
@[simp] theorem takeReset_offered (s : State) : (takeReset s).offered = s.offered := rfl
@[simp] theorem takeReset_result (s : State) : (takeReset s).result = .none := rfl
@[simp] theorem takeReset_build (s : State) : (takeReset s).build = s.build := rfl

end Sys2Proof.Machine
end

