-- ==== Sys2Proof/Laws/Commands.lean ====
section
/-! SUPPORT. What each command can do, said once. -/

namespace Sys2Proof.Machine

/-- A write of CMD does what the command of its word does (R105). -/
theorem execWrCmd_eq (w : U32) (s : State) : execWrCmd w s = exec (decodeCommand w).toInstr s := by
  unfold execWrCmd
  cases decodeCommand w <;> rfl

/-- The lowest bad tap is below the length and not finite, and the taps before it are finite (R153). -/
theorem firstBadTap_eq_some {m : Memory} {n k : Nat} :
    firstBadTap m n = some k ↔
      k < n ∧ isFinite64 (tapRead m k) = false ∧ ∀ j, j < k → isFinite64 (tapRead m j) = true := by
  simp only [firstBadTap, List.find?_range_eq_some, Bool.not_eq_true', List.mem_range, Bool.not_not]
  tauto

theorem firstBadTap_eq_none {m : Memory} {n : Nat} :
    firstBadTap m n = none ↔ ∀ k, k < n → isFinite64 (tapRead m k) = true := by
  simp [firstBadTap]

/-- What CheckConfig says when it passes (R153). -/
theorem checkConfig_ok {s : State} {inc : F64} (h : checkConfig s = .ok inc) :
    s.sampleRate ≠ 0#32 ∧ s.decimM ≠ 0#32 ∧ s.firNtaps ≠ 0#32 ∧ s.firNtaps.toNat ≤ s.build.tapDepth ∧
      (lt64 zero64 s.dcAlpha && lt64 s.dcAlpha one64) = true ∧ isFinite64 s.mixFreq = true ∧
      isFinite64 (incRaw s.mixFreq s.sampleRate) = true ∧
      (∀ k, k < s.firNtaps.toNat → isFinite64 (tapRead s.taps k) = true) ∧
      inc = incReduced s.mixFreq s.sampleRate := by
  unfold checkConfig at h
  by_cases h1 : s.sampleRate = 0#32
  · simp [h1] at h
  by_cases h2 : s.decimM = 0#32
  · simp [h1, h2] at h
  by_cases h3 : s.firNtaps = 0#32 ∨ s.build.tapDepth < s.firNtaps.toNat
  · rw [if_neg h1, if_neg h2, if_pos h3] at h
    cases h
  by_cases h4 : (lt64 zero64 s.dcAlpha && lt64 s.dcAlpha one64) = false
  · rw [if_neg h1, if_neg h2, if_neg h3, if_pos h4] at h
    cases h
  by_cases h5 : isFinite64 s.mixFreq = false
  · rw [if_neg h1, if_neg h2, if_neg h3, if_neg h4, if_pos h5] at h
    cases h
  by_cases h6 : isFinite64 (incRaw s.mixFreq s.sampleRate) = false
  · rw [if_neg h1, if_neg h2, if_neg h3, if_neg h4, if_neg h5, if_pos h6] at h
    cases h
  rw [if_neg h1, if_neg h2, if_neg h3, if_neg h4, if_neg h5, if_neg h6] at h
  cases h7 : firstBadTap s.taps s.firNtaps.toNat with
  | some k => simp [h7] at h
  | none =>
    rw [h7] at h
    refine ⟨h1, h2, fun h => h3 (.inl h), ?_, by simpa using h4, by simpa using h5, by simpa using h6,
      firstBadTap_eq_none.1 h7, by cases h; rfl⟩
    exact Nat.le_of_not_lt fun h => h3 (.inr h)

/-- What CheckConfig reports is a detail of 1 to 7 (R153). -/
theorem checkConfig_error {s : State} {e : ConfigFailure} (h : checkConfig s = .error e) :
    1 ≤ e.detail.toNat ∧ e.detail.toNat ≤ 7 := by
  unfold checkConfig at h
  repeat' split at h
  all_goals
    cases h <;> exact ⟨by simp, by simp⟩

/-- Everything START can do (R152). -/
theorem execStart_cases (s : State) :
    (s.runState = .run ∧ execStart s = .next (refuseWrite s)) ∨
    (s.runState ≠ .run ∧ ∃ e, checkConfig (startClear s) = .error e ∧
      execStart s = .next (answerWrite (raiseFault 1#4 e.detail 0#3 e.index (startClear s)))) ∨
    (s.runState ≠ .run ∧ ∃ inc, checkConfig (startClear s) = .ok inc ∧
      execStart s = .next (answerWrite (startRun inc (startClear s)))) := by
  unfold execStart
  by_cases h : s.runState = .run
  · exact .inl ⟨h, by rw [if_pos h]⟩
  · rw [if_neg h]
    cases hc : checkConfig (startClear s) with
    | error e => exact .inr (.inl ⟨h, e, rfl, rfl⟩)
    | ok inc => exact .inr (.inr ⟨h, inc, rfl, rfl⟩)

/-- Everything EOS can do (R158). -/
theorem execEos_cases (s : State) :
    (s.runState ≠ .run ∧ execEos s = .next (refuseWrite s)) ∨
    (s.runState = .run ∧ s.demKept < 2 ∧
      execEos s = .next (answerWrite (raiseFault 3#4 0#4 5#3 s.inCount s))) ∨
    (s.runState = .run ∧ 2 ≤ s.demKept ∧
      execEos s = .next (answerWrite { s with runState := .done, irqStatus := setDone s.irqStatus })) := by
  unfold execEos
  by_cases h : s.runState = .run
  · rw [if_pos h]
    by_cases hk : s.demKept < 2
    · exact .inr (.inl ⟨h, hk, by rw [if_pos hk]⟩)
    · exact .inr (.inr ⟨h, by omega, by rw [if_neg hk]⟩)
  · exact .inl ⟨h, by rw [if_neg h]⟩

/-- Everything an input beat can do (R170). -/
theorem execInBeat_cases (i q : F64) (s : State) :
    (inReady s = false ∧ execInBeat i q s = .next (keepOffered (.input (i ++ q)) s)) ∨
    (inReady s = true ∧ s.wNtaps.toNat ≤ s.build.tapDepth ∧ execInBeat i q s = .next (acceptBeat ⟨i, q⟩ s)) ∨
    (inReady s = true ∧ s.build.tapDepth < s.wNtaps.toNat ∧
      execInBeat i q s = .fault (.tapIndexOutOfRange s.build.tapDepth)) := by
  unfold execInBeat
  by_cases h : inReady s = true
  · rw [if_pos h]
    by_cases hk : s.wNtaps.toNat ≤ s.build.tapDepth
    · exact .inr (.inl ⟨h, hk, by rw [if_pos hk]⟩)
    · exact .inr (.inr ⟨h, by omega, by rw [if_neg hk]⟩)
  · exact .inl ⟨by simpa using h, by rw [if_neg h]⟩

/-- A beat is taken only in a run (R170). -/
theorem run_of_inReady {s : State} (h : inReady s = true) :
    s.runState = .run ∧ s.queue.length < s.build.outFifoDepth := by
  simpa [inReady] using h

end Sys2Proof.Machine
end

