-- ==== Sys2Proof/Laws/Decode.lean ====
section
/-! SUPPORT. What the decoder gives in each of its ranges (R82 to R84) and for each command word (R86 to R88). -/

namespace Sys2Proof

theorem misalignedBy_iff {k : Nat} {a : BitVec 12} : misalignedBy k a = true ↔ a.toNat % 4 = k := by
  simp [misalignedBy]

theorem alignedIn_iff {lo hi : Nat} {a : BitVec 12} :
    alignedIn lo hi a = true ↔ (a.toNat % 4 = 0 ∧ lo ≤ a.toNat) ∧ a.toNat < hi := by
  simp [alignedIn]

theorem decodeRead_misaligned1 (a : BitVec 12) (h : a.toNat % 4 = 1) : decodeRead a = .rdMisaligned1 a := by
  simp [decodeRead, h]

theorem decodeRead_misaligned2 (a : BitVec 12) (h : a.toNat % 4 = 2) : decodeRead a = .rdMisaligned2 a := by
  simp [decodeRead, h]

theorem decodeRead_misaligned3 (a : BitVec 12) (h : a.toNat % 4 = 3) : decodeRead a = .rdMisaligned3 a := by
  simp [decodeRead, h]

theorem decodeWriteFull_misaligned1 (a : BitVec 12) (w : U32) (h : a.toNat % 4 = 1) :
    decodeWriteFull a w = .wrMisaligned1 a w := by
  simp [decodeWriteFull, h]

theorem decodeWriteFull_misaligned2 (a : BitVec 12) (w : U32) (h : a.toNat % 4 = 2) :
    decodeWriteFull a w = .wrMisaligned2 a w := by
  simp [decodeWriteFull, h]

theorem decodeWriteFull_misaligned3 (a : BitVec 12) (w : U32) (h : a.toNat % 4 = 3) :
    decodeWriteFull a w = .wrMisaligned3 a w := by
  simp [decodeWriteFull, h]

/-- An aligned read from 0x080 up is unmapped, in the row of its highest set bit (R84). -/
theorem decodeRead_high (a : BitVec 12) (h4 : a.toNat % 4 = 0) (h : 0x080 ≤ a.toNat) :
    decodeRead a =
      if a.toNat < 0x100 then .rdUnmappedHiB7 a
      else if a.toNat < 0x200 then .rdUnmappedHiB8 a
      else if a.toNat < 0x400 then .rdUnmappedHiB9 a
      else if a.toNat < 0x800 then .rdUnmappedHiB10 a
      else .rdUnmappedHiB11 a := by
  simp only [decodeRead, h4]
  unfold decodeReadAligned
  split <;> first | rfl | omega

/-- An aligned full-strobe write from 0x080 up is unmapped, in the row of its highest set bit (R84). -/
theorem decodeWriteFull_high (a : BitVec 12) (w : U32) (h4 : a.toNat % 4 = 0) (h : 0x080 ≤ a.toNat) :
    decodeWriteFull a w =
      if a.toNat < 0x100 then .wrUnmappedHiB7 a w
      else if a.toNat < 0x200 then .wrUnmappedHiB8 a w
      else if a.toNat < 0x400 then .wrUnmappedHiB9 a w
      else if a.toNat < 0x800 then .wrUnmappedHiB10 a w
      else .wrUnmappedHiB11 a w := by
  simp only [decodeWriteFull, h4]
  unfold decodeWriteAligned
  split <;> first | rfl | omega

section ranges

variable (a : BitVec 12) (w : U32)

theorem decodeRead_highB7 (h : (a.toNat % 4 = 0 ∧ 0x080 ≤ a.toNat) ∧ a.toNat < 0x100) :
    decodeRead a = .rdUnmappedHiB7 a := by
  rw [decodeRead_high a h.1.1 (by omega), if_pos h.2]

theorem decodeRead_highB8 (h : (a.toNat % 4 = 0 ∧ 0x100 ≤ a.toNat) ∧ a.toNat < 0x200) :
    decodeRead a = .rdUnmappedHiB8 a := by
  rw [decodeRead_high a h.1.1 (by omega), if_neg (by omega), if_pos h.2]

theorem decodeRead_highB9 (h : (a.toNat % 4 = 0 ∧ 0x200 ≤ a.toNat) ∧ a.toNat < 0x400) :
    decodeRead a = .rdUnmappedHiB9 a := by
  rw [decodeRead_high a h.1.1 (by omega), if_neg (by omega), if_neg (by omega), if_pos h.2]

theorem decodeRead_highB10 (h : (a.toNat % 4 = 0 ∧ 0x400 ≤ a.toNat) ∧ a.toNat < 0x800) :
    decodeRead a = .rdUnmappedHiB10 a := by
  rw [decodeRead_high a h.1.1 (by omega), if_neg (by omega), if_neg (by omega), if_neg (by omega), if_pos h.2]

theorem decodeRead_highB11 (h : (a.toNat % 4 = 0 ∧ 0x800 ≤ a.toNat) ∧ a.toNat < 0x1000) :
    decodeRead a = .rdUnmappedHiB11 a := by
  rw [decodeRead_high a h.1.1 (by omega), if_neg (by omega), if_neg (by omega), if_neg (by omega),
    if_neg (by omega)]

theorem decodeWriteFull_highB7 (h : (a.toNat % 4 = 0 ∧ 0x080 ≤ a.toNat) ∧ a.toNat < 0x100) :
    decodeWriteFull a w = .wrUnmappedHiB7 a w := by
  rw [decodeWriteFull_high a w h.1.1 (by omega), if_pos h.2]

theorem decodeWriteFull_highB8 (h : (a.toNat % 4 = 0 ∧ 0x100 ≤ a.toNat) ∧ a.toNat < 0x200) :
    decodeWriteFull a w = .wrUnmappedHiB8 a w := by
  rw [decodeWriteFull_high a w h.1.1 (by omega), if_neg (by omega), if_pos h.2]

theorem decodeWriteFull_highB9 (h : (a.toNat % 4 = 0 ∧ 0x200 ≤ a.toNat) ∧ a.toNat < 0x400) :
    decodeWriteFull a w = .wrUnmappedHiB9 a w := by
  rw [decodeWriteFull_high a w h.1.1 (by omega), if_neg (by omega), if_neg (by omega), if_pos h.2]

theorem decodeWriteFull_highB10 (h : (a.toNat % 4 = 0 ∧ 0x400 ≤ a.toNat) ∧ a.toNat < 0x800) :
    decodeWriteFull a w = .wrUnmappedHiB10 a w := by
  rw [decodeWriteFull_high a w h.1.1 (by omega), if_neg (by omega), if_neg (by omega), if_neg (by omega),
    if_pos h.2]

theorem decodeWriteFull_highB11 (h : (a.toNat % 4 = 0 ∧ 0x800 ≤ a.toNat) ∧ a.toNat < 0x1000) :
    decodeWriteFull a w = .wrUnmappedHiB11 a w := by
  rw [decodeWriteFull_high a w h.1.1 (by omega), if_neg (by omega), if_neg (by omega), if_neg (by omega),
    if_neg (by omega)]

end ranges

theorem opcField_toNat (w : U32) : (opcField w).toNat = w.toNat % 256 := by
  simp [opcField, BitVec.extractLsb'_toNat]

theorem smaskField_toNat (w : U32) : (smaskField w).toNat = w.toNat / 256 % 32 := by
  simp [smaskField, BitVec.extractLsb'_toNat, Nat.shiftRight_eq_div_pow]

theorem reservedField_toNat (w : U32) : (reservedField w).toNat = w.toNat / 8192 := by
  have := w.isLt
  simp only [reservedField, BitVec.extractLsb'_toNat, Nat.shiftRight_eq_div_pow]
  omega

/-- A word R88 calls illegal decodes to the illegal command. -/
theorem decodeCommand_illegal {w : U32} (h : illegalWord w = true) : decodeCommand w = .illegal w := by
  have ho := opcField_toNat w
  have hs := smaskField_toNat w
  have hr := reservedField_toNat w
  simp only [illegalWord, Bool.or_eq_true, Bool.and_eq_true, decide_eq_true_eq] at h
  unfold decodeCommand
  simp only [← BitVec.toNat_inj, ne_eq, ho, hs, hr, BitVec.toNat_ofNat, Nat.reducePow, Nat.reduceMod]
  split_ifs <;> first | rfl | omega

/-- The word of a STAGE_RESET decodes to it, with its mask (R86). -/
theorem decodeCommand_stageReset (m : BitVec 5) :
    decodeCommand (Command.stageReset m).word = .stageReset m := by
  revert m
  decide

/-- The two parts of an input beat are where R80 puts them. -/
theorem decode_input_append (i q : F64) : decode (.input (i ++ q)) = .inBeat i q := by
  have h1 : (i ++ q).extractLsb' 64 64 = i := by
    apply BitVec.eq_of_getLsbD_eq
    intro k hk
    have hk' : ¬64 + k < 64 := by omega
    rw [BitVec.getLsbD_extractLsb', BitVec.getLsbD_append]
    simp [hk, hk']
  have h2 : (i ++ q).extractLsb' 0 64 = q := by
    apply BitVec.eq_of_getLsbD_eq
    intro k hk
    rw [BitVec.getLsbD_extractLsb', BitVec.getLsbD_append]
    simp [hk]
  exact congrArg₂ Instr.inBeat h1 h2

end Sys2Proof
end

