-- ==== Sys2Proof/Laws/Float.lean ====
section
/-! SUPPORT. What rounding does, said once (R10): the magnitude of a bit pattern rises with the pattern, rounding
gives a nearest magnitude, rounds a magnitude of the format to itself, and is monotone. -/

namespace Sys2Proof.Machine

/-- The magnitude of the pattern `p` of bits 62:0, in units of 2^-1074. -/
def bitsMag (p : Nat) : Nat :=
  if p / 2 ^ 52 = 0 then p % 2 ^ 52 else (2 ^ 52 + p % 2 ^ 52) * 2 ^ (p / 2 ^ 52 - 1)

/-- Bits 62:0 of a value. -/
def lowBits (x : F64) : Nat := x.toNat % 2 ^ 63

theorem expo64_eq (x : F64) : expo64 x = lowBits x / 2 ^ 52 := by
  have := x.isLt
  simp only [expo64, lowBits]
  omega

theorem frac64_eq (x : F64) : frac64 x = lowBits x % 2 ^ 52 := by
  simp only [frac64, lowBits]
  omega

theorem mag64_eq (x : F64) : mag64 x = bitsMag (lowBits x) := by
  simp only [mag64, bitsMag, expo64_eq, frac64_eq, Nat.shiftLeft_eq]

theorem lowBits_lt (x : F64) : lowBits x < 2 ^ 63 := Nat.mod_lt _ (by decide)

theorem isFinite64_iff (x : F64) : isFinite64 x = true ↔ lowBits x < 2047 * 2 ^ 52 := by
  have := lowBits_lt x
  simp only [isFinite64, expo64_eq, bne_iff_ne, ne_eq]
  omega

theorem isZero64_iff (x : F64) : isZero64 x = true ↔ lowBits x = 0 := by
  simp only [isZero64, expo64_eq, frac64_eq, Bool.and_eq_true, beq_iff_eq]
  omega

/-- A pattern of exponent step `e` and significand `m` has the magnitude `m · 2^e`; a significand of 2^53 carries into
the next exponent. -/
theorem bitsMag_grid {e m : Nat} (h : (e = 0 ∧ m ≤ 2 ^ 53) ∨ (2 ^ 52 ≤ m ∧ m ≤ 2 ^ 53)) :
    bitsMag (e * 2 ^ 52 + m) = m * 2 ^ e := by
  unfold bitsMag
  by_cases h1 : m < 2 ^ 52
  · have he : e = 0 := by omega
    subst he
    rw [if_pos (by omega)]
    simp only [pow_zero, Nat.mul_one]
    omega
  · by_cases h2 : m = 2 ^ 53
    · subst h2
      have hd : (e * 2 ^ 52 + 2 ^ 53) / 2 ^ 52 = e + 2 := by omega
      have hr : (e * 2 ^ 52 + 2 ^ 53) % 2 ^ 52 = 0 := by omega
      rw [hd, hr, if_neg (by omega)]
      have : e + 2 - 1 = e + 1 := by omega
      rw [this, pow_succ]
      ring
    · have hd : (e * 2 ^ 52 + m) / 2 ^ 52 = e + 1 := by omega
      have hr : (e * 2 ^ 52 + m) % 2 ^ 52 = m - 2 ^ 52 := by omega
      rw [hd, hr, if_neg (by omega)]
      have : 2 ^ 52 + (m - 2 ^ 52) = m := by omega
      rw [this, Nat.add_sub_cancel]

/-- Every pattern is one of the grid's, with a significand below 2^53. -/
theorem bits_grid (p : Nat) :
    ∃ e m, p = e * 2 ^ 52 + m ∧ ((e = 0 ∧ m < 2 ^ 53) ∨ (2 ^ 52 ≤ m ∧ m < 2 ^ 53)) := by
  by_cases h : p / 2 ^ 52 = 0
  · exact ⟨0, p, by omega, .inl ⟨rfl, by omega⟩⟩
  · exact ⟨p / 2 ^ 52 - 1, 2 ^ 52 + p % 2 ^ 52, by omega, .inr ⟨by omega, by omega⟩⟩

theorem bitsMag_lt_succ (p : Nat) : bitsMag p < bitsMag (p + 1) := by
  obtain ⟨e, m, hp, h⟩ := bits_grid p
  have h1 : bitsMag p = m * 2 ^ e := hp ▸ bitsMag_grid (by omega)
  have h2 : bitsMag (p + 1) = (m + 1) * 2 ^ e := by
    rw [hp, Nat.add_assoc]
    exact bitsMag_grid (by omega)
  rw [h1, h2]
  exact Nat.mul_lt_mul_of_pos_right (by omega) (by positivity)

/-- The magnitude rises strictly with the pattern. -/
theorem bitsMag_strictMono : StrictMono bitsMag := strictMono_nat_of_lt_succ bitsMag_lt_succ

theorem bitsMag_zero : bitsMag 0 = 0 := by decide

/-- A magnitude of at least 2^(52+e) is a whole number of steps of 2^e. -/
theorem dvd_bitsMag {e p : Nat} (h : 2 ^ (52 + e) ≤ bitsMag p) : 2 ^ e ∣ bitsMag p := by
  obtain ⟨e', m, hp, h'⟩ := bits_grid p
  have h1 : bitsMag p = m * 2 ^ e' := hp ▸ bitsMag_grid (by omega)
  rw [h1] at h ⊢
  have hm : m < 2 ^ 53 := by omega
  have : 2 ^ (52 + e) < 2 ^ (53 + e') := by
    calc 2 ^ (52 + e) ≤ m * 2 ^ e' := h
      _ < 2 ^ 53 * 2 ^ e' := Nat.mul_lt_mul_of_pos_right hm (by positivity)
      _ = 2 ^ (53 + e') := (pow_add 2 53 e').symm
  have : 52 + e < 53 + e' := (Nat.pow_lt_pow_iff_right (by omega)).1 this
  exact Dvd.dvd.mul_left (pow_dvd_pow 2 (by omega)) m

/-- `roundEven` gives a whole number at most half away. -/
theorem roundEven_near {num den : Nat} (hd : 0 < den) :
    2 * num ≤ (2 * roundEven num den + 1) * den ∧ 2 * roundEven num den * den ≤ 2 * num + den := by
  have h := Nat.div_add_mod num den
  have hr := Nat.mod_lt num hd
  unfold roundEven
  simp only
  generalize num / den = q at *
  generalize num % den = r at *
  subst h
  split_ifs with h1 h2
  · constructor <;> nlinarith
  · constructor <;> nlinarith
  · have hp : q % 2 = 0 ∨ q % 2 = 1 := by omega
    rcases hp with hp | hp <;> rw [hp] <;> constructor <;> nlinarith

/-- A tie goes to the even one. -/
theorem roundEven_tie {num den : Nat} (h : 2 * (num % den) = den) : roundEven num den % 2 = 0 := by
  unfold roundEven
  simp only
  rw [if_neg (by omega), if_neg (by omega)]
  omega

theorem roundEven_mul {m den : Nat} (hd : 0 < den) : roundEven (m * den) den = m := by
  unfold roundEven
  simp [Nat.mul_mod_left, Nat.mul_div_cancel _ hd, hd]

/-- `roundEven` is the floor or the floor and one. -/
theorem roundEven_floor (num den : Nat) :
    num / den ≤ roundEven num den ∧ roundEven num den ≤ num / den + 1 := by
  unfold roundEven
  simp only
  split_ifs <;> omega

/-- The exponent step of a quotient, and the significand's range at it. -/
theorem scale64_spec (q : Nat) : (scale64 q = 0 ∧ q < 2 ^ 53) ∨ (2 ^ 52 ≤ q / 2 ^ scale64 q ∧ q / 2 ^ scale64 q < 2 ^ 53) := by
  by_cases h : q < 2 ^ 53
  · refine .inl ⟨?_, h⟩
    unfold scale64
    by_cases h0 : q = 0
    · subst h0; decide
    · have := (Nat.log2_lt h0).2 h
      omega
  · right
    have h0 : q ≠ 0 := by omega
    have hl : 53 ≤ q.log2 := (Nat.le_log2 h0).2 (by omega)
    have h1 : 2 ^ q.log2 ≤ q := Nat.log2_self_le h0
    have h2 : q < 2 ^ (q.log2 + 1) := Nat.lt_log2_self
    obtain ⟨k, hk⟩ : ∃ k, q.log2 = 52 + k := ⟨q.log2 - 52, by omega⟩
    have hs : scale64 q = k := by unfold scale64; omega
    rw [hs]
    rw [hk] at h1 h2
    constructor
    · rw [Nat.le_div_iff_mul_le (by positivity), ← pow_add]
      exact h1
    · rw [Nat.div_lt_iff_lt_mul (by positivity), ← pow_add]
      calc q < 2 ^ (52 + k + 1) := h2
        _ = 2 ^ (53 + k) := by congr 1; omega

/-- The significand that rounding chooses, at its exponent step. -/
theorem roundBits_grid {num den : Nat} (hd : 0 < den) :
    ∃ e m, roundBits num den = min (e * 2 ^ 52 + m) (2047 * 2 ^ 52) ∧ m = roundEven num (den * 2 ^ e) ∧
      ((e = 0 ∧ num / den < 2 ^ 53 ∧ m ≤ 2 ^ 53) ∨
        ((2 ^ (52 + e) * den ≤ num ∧ num < 2 ^ (53 + e) * den) ∧ 2 ^ 52 ≤ m ∧ m ≤ 2 ^ 53)) := by
  refine ⟨scale64 (num / den), roundEven num (den * 2 ^ scale64 (num / den)), ?_, rfl, ?_⟩
  · simp [roundBits, Nat.shiftLeft_eq]
  · have hf := roundEven_floor num (den * 2 ^ scale64 (num / den))
    rw [← Nat.div_div_eq_div_mul] at hf
    rcases scale64_spec (num / den) with ⟨h0, hq⟩ | ⟨h1, h2⟩
    · left
      rw [h0] at hf ⊢
      simp only [pow_zero, Nat.div_one, Nat.mul_one] at hf ⊢
      exact ⟨trivial, hq, hf.2.trans hq⟩
    · right
      refine ⟨⟨?_, ?_⟩, h1.trans hf.1, hf.2.trans h2⟩
      · rw [Nat.le_div_iff_mul_le (by positivity), ← pow_add] at h1
        exact (Nat.le_div_iff_mul_le hd).1 h1
      · rw [Nat.div_lt_iff_lt_mul (by positivity), ← pow_add] at h2
        exact (Nat.div_lt_iff_lt_mul hd).1 h2

/-- Rounding gives a nearest magnitude: no pattern at all is nearer to `num / den` than the result without the bound
at infinity. -/
theorem roundBits_nearest {num den : Nat} (hd : 0 < den) :
    ∃ g, roundBits num den = min g (2047 * 2 ^ 52) ∧
      ∀ p, |((bitsMag g * den : Nat) : Int) - num| ≤ |((bitsMag p * den : Nat) : Int) - num| := by
  obtain ⟨e, m, hr, hm, h⟩ := roundBits_grid (num := num) hd
  refine ⟨e * 2 ^ 52 + m, hr, fun p => ?_⟩
  rw [bitsMag_grid (by omega)]
  have hden : 0 < den * 2 ^ e := by positivity
  have hn := roundEven_near (num := num) hden
  rw [← hm] at hn
  -- the magnitude of `p` is a whole number of steps, or lies below the significand's range
  have hp : (∃ k, bitsMag p = k * 2 ^ e) ∨ (bitsMag p < 2 ^ 52 * 2 ^ e ∧ 2 ^ 52 * 2 ^ e * den ≤ num) := by
    rcases h with ⟨rfl, -, -⟩ | ⟨⟨h1, -⟩, -, -⟩
    · exact .inl ⟨bitsMag p, by simp⟩
    · by_cases hb : 2 ^ (52 + e) ≤ bitsMag p
      · obtain ⟨k, hk⟩ := dvd_bitsMag hb
        exact .inl ⟨k, by rw [hk]; ring⟩
      · rw [pow_add] at hb h1
        exact .inr ⟨by omega, h1⟩
  set D := den * 2 ^ e with hD
  have e1 : m * 2 ^ e * den = m * D := by rw [hD]; ring
  have near : ∀ k : Nat, |((m * D : Nat) : Int) - num| ≤ |((k * D : Nat) : Int) - num| := by
    intro k
    have hn1 : (2 * num : Int) ≤ (2 * m + 1) * D := by exact_mod_cast hn.1
    have hn2 : (2 * m * D : Int) ≤ 2 * num + D := by exact_mod_cast hn.2
    have hDpos : (0 : Int) < D := by exact_mod_cast hden
    push_cast
    rcases lt_trichotomy k m with hk | rfl | hk
    · have hk' : ((k : Int) + 1) * D ≤ m * D := by
        have : (k : Int) + 1 ≤ m := by exact_mod_cast hk
        nlinarith
      have : (k : Int) * D - num ≤ 0 := by nlinarith
      rw [abs_of_nonpos this, abs_le]
      constructor <;> nlinarith
    · exact le_refl _
    · have hk' : ((m : Int) + 1) * D ≤ k * D := by
        have : (m : Int) + 1 ≤ k := by exact_mod_cast hk
        nlinarith
      have : 0 ≤ (k : Int) * D - num := by nlinarith
      rw [abs_of_nonneg this, abs_le]
      constructor <;> nlinarith
  rw [e1]
  rcases hp with ⟨k, hk⟩ | ⟨hlt, hle⟩
  · rw [hk]
    have : k * 2 ^ e * den = k * D := by rw [hD]; ring
    rw [this]
    exact near k
  · refine (near (2 ^ 52)).trans ?_
    have e2 : 2 ^ 52 * D ≤ num := by rw [hD]; linarith [hle, Nat.mul_comm (2 ^ 52 * 2 ^ e) den]
    have e3 : bitsMag p * den ≤ 2 ^ 52 * D := by
      rw [hD]
      nlinarith
    have e2' : ((2 ^ 52 * D : Nat) : Int) ≤ num := by exact_mod_cast e2
    have e3' : ((bitsMag p * den : Nat) : Int) ≤ ((2 ^ 52 * D : Nat) : Int) := by exact_mod_cast e3
    rw [abs_of_nonpos (by linarith), abs_of_nonpos (by linarith)]
    linarith

/-- A magnitude of the format rounds to its own pattern. -/
theorem roundBits_bitsMag {p den : Nat} (hd : 0 < den) (hp : p < 2047 * 2 ^ 52) :
    roundBits (bitsMag p * den) den = p := by
  obtain ⟨e, m, hr, hm, h⟩ := roundBits_grid (num := bitsMag p * den) hd
  obtain ⟨e', m', hp', h'⟩ := bits_grid p
  have hb : bitsMag p = m' * 2 ^ e' := hp' ▸ bitsMag_grid (by omega)
  have hq : bitsMag p * den / den = bitsMag p := Nat.mul_div_cancel _ hd
  rw [hq] at h
  have hup : bitsMag p < 2 ^ (53 + e') := by
    rw [hb, pow_add]
    exact Nat.mul_lt_mul_of_pos_right (by omega) (by positivity)
  have hlo : e' = 0 ∨ 2 ^ (52 + e') ≤ bitsMag p := by
    rcases h' with ⟨h0, -⟩ | ⟨h1, -⟩
    · exact .inl h0
    · right
      rw [hb, pow_add]
      exact Nat.mul_le_mul_right _ h1
  have he : e = e' := by
    have cmp : ∀ {a b : Nat}, (2 : Nat) ^ a < 2 ^ b → a < b := fun h => (Nat.pow_lt_pow_iff_right (by omega)).1 h
    rcases h with ⟨rfl, h1, -⟩ | ⟨⟨h1, h2⟩, -, -⟩
    · rcases hlo with hlo | hlo
      · exact hlo.symm
      · have := cmp (lt_of_le_of_lt hlo h1)
        omega
    · have h1 : 2 ^ (52 + e) ≤ bitsMag p := Nat.le_of_mul_le_mul_right h1 hd
      have h2 : bitsMag p < 2 ^ (53 + e) := Nat.lt_of_mul_lt_mul_right h2
      have := cmp (lt_of_le_of_lt h1 hup)
      rcases hlo with hlo | hlo
      · omega
      · have := cmp (lt_of_le_of_lt hlo h2)
        omega
  subst he
  have hmm : m = m' := by
    rw [hm, hb]
    have : m' * 2 ^ e * den = m' * (den * 2 ^ e) := by ring
    rw [this, roundEven_mul (by positivity)]
  rw [hr, hmm, ← hp']
  omega

/-- A value at most a magnitude of the format rounds to at most its pattern. -/
theorem roundBits_le {num den p : Nat} (hd : 0 < den) (h : num ≤ bitsMag p * den) : roundBits num den ≤ p := by
  obtain ⟨g, hg, hn⟩ := roundBits_nearest (num := num) hd
  refine (hg ▸ Nat.min_le_left _ _ : roundBits num den ≤ g).trans (Nat.le_of_not_lt fun hlt => ?_)
  have h1 : bitsMag p * den < bitsMag g * den := Nat.mul_lt_mul_of_pos_right (bitsMag_strictMono hlt) hd
  have h2 := hn p
  have h3 : (num : Int) ≤ ((bitsMag p * den : Nat) : Int) := by exact_mod_cast h
  have h4 : ((bitsMag p * den : Nat) : Int) < ((bitsMag g * den : Nat) : Int) := by exact_mod_cast h1
  rw [abs_of_nonneg (by linarith), abs_of_nonneg (by linarith)] at h2
  linarith

/-- A value at least a magnitude of the format rounds to at least its pattern, or to infinity. -/
theorem le_roundBits {num den p : Nat} (hd : 0 < den) (h : bitsMag p * den ≤ num) :
    min p (2047 * 2 ^ 52) ≤ roundBits num den := by
  obtain ⟨g, hg, hn⟩ := roundBits_nearest (num := num) hd
  rw [hg]
  refine min_le_min (Nat.le_of_not_lt fun hlt => ?_) (le_refl _)
  have h1 : bitsMag g * den < bitsMag p * den := Nat.mul_lt_mul_of_pos_right (bitsMag_strictMono hlt) hd
  have h2 := hn p
  have h3 : ((bitsMag p * den : Nat) : Int) ≤ (num : Int) := by exact_mod_cast h
  have h4 : ((bitsMag g * den : Nat) : Int) < ((bitsMag p * den : Nat) : Int) := by exact_mod_cast h1
  rw [abs_of_nonpos (by linarith), abs_of_nonpos (by linarith)] at h2
  linarith

theorem roundBits_le_inf (num den : Nat) : roundBits num den ≤ 2047 * 2 ^ 52 := Nat.min_le_right _ _

/-! The parts of a rounded value and of a negated one -/

theorem sign64_eq (x : F64) : sign64 x = decide (2 ^ 63 ≤ x.toNat) := by
  have := x.isLt
  simp only [sign64, BitVec.getLsbD, Nat.testBit_eq_decide_div_mod_eq]
  congr 1
  simp only [eq_iff_iff]
  omega

theorem toNat_round64 (neg : Bool) (num den : Nat) :
    (round64 neg num den).toNat = (if neg then 2 ^ 63 else 0) + roundBits num den := by
  have := roundBits_le_inf num den
  simp only [round64, BitVec.toNat_ofNat]
  cases neg <;> simp <;> omega

@[simp] theorem sign64_round64 (neg : Bool) (num den : Nat) : sign64 (round64 neg num den) = neg := by
  have := roundBits_le_inf num den
  rw [sign64_eq, toNat_round64]
  cases neg <;> simp
  omega

@[simp] theorem lowBits_round64 (neg : Bool) (num den : Nat) : lowBits (round64 neg num den) = roundBits num den := by
  have := roundBits_le_inf num den
  rw [lowBits, toNat_round64]
  cases neg <;> simp <;> omega

theorem toNat_neg64 (x : F64) :
    (neg64 x).toNat = (if sign64 x then 0 else 2 ^ 63) + lowBits x := by
  have hx := x.isLt
  have hm := Nat.xor_mod_two_pow (a := x.toNat) (b := 2 ^ 63) (n := 63)
  have hd := Nat.xor_div_two_pow (a := x.toNat) (b := 2 ^ 63) (n := 63)
  have hn : (neg64 x).toNat = x.toNat ^^^ 2 ^ 63 := BitVec.toNat_xor _ _
  have hl : x.toNat % 2 ^ 63 = lowBits x := rfl
  rw [hn, ← Nat.div_add_mod (x.toNat ^^^ 2 ^ 63) (2 ^ 63), hm, hd, Nat.mod_self, Nat.xor_zero, hl, sign64_eq]
  have hq : x.toNat / 2 ^ 63 = if 2 ^ 63 ≤ x.toNat then 1 else 0 := by split <;> omega
  rw [hq, Nat.div_self (by positivity)]
  by_cases h : 2 ^ 63 ≤ x.toNat <;> simp only [h, if_true, if_false, decide_true, decide_false, Bool.false_eq_true] <;> simp

@[simp] theorem sign64_neg64 (x : F64) : sign64 (neg64 x) = !sign64 x := by
  have h := toNat_neg64 x
  have hl : lowBits x < 2 ^ 63 := Nat.mod_lt _ (by positivity)
  rw [sign64_eq (neg64 x), h]
  cases sign64 x <;> simp
  omega

@[simp] theorem lowBits_neg64 (x : F64) : lowBits (neg64 x) = lowBits x := by
  have h := toNat_neg64 x
  have hl : lowBits x < 2 ^ 63 := Nat.mod_lt _ (by positivity)
  rw [show lowBits (neg64 x) = (neg64 x).toNat % 2 ^ 63 from rfl, h]
  cases sign64 x
  · simp only [Bool.false_eq_true, if_false, Nat.add_mod_left]
    exact Nat.mod_eq_of_lt hl
  · simpa using Nat.mod_eq_of_lt hl

@[simp] theorem neg64_neg64 (x : F64) : neg64 (neg64 x) = x := by
  simp [neg64]

@[simp] theorem mag64_neg64 (x : F64) : mag64 (neg64 x) = mag64 x := by simp [mag64_eq]

@[simp] theorem units64_neg64 (x : F64) : units64 (neg64 x) = -units64 x := by
  simp only [units64, sign64_neg64, mag64_neg64]
  cases sign64 x <;> simp

@[simp] theorem isFinite64_neg64 (x : F64) : isFinite64 (neg64 x) = isFinite64 x := by
  rw [Bool.eq_iff_iff, isFinite64_iff, isFinite64_iff, lowBits_neg64]

/-- A finite value is no NaN and no infinity. -/
theorem not_nan_of_finite {x : F64} (h : isFinite64 x = true) : isNan64 x = false ∧ isInf64 x = false := by
  simp only [isFinite64, bne_iff_ne] at h
  simp [isNan64, isInf64, h]

theorem isFinite64_eq (x : F64) : isFinite64 x = (!isNan64 x && !isInf64 x) := by
  simp only [isFinite64, isNan64, isInf64, bne]
  cases expo64 x == 2047 <;> cases frac64 x == 0 <;> rfl

@[simp] theorem isFinite64_qnan64 : isFinite64 qnan64 = false := by decide +kernel

/-- A sum with an operand that is not finite is not finite (G6). -/
theorem add64_not_finite {a b : F64} (h : isFinite64 a = false ∨ isFinite64 b = false) :
    isFinite64 (add64 a b) = false := by
  have ha := isFinite64_eq a
  have hb := isFinite64_eq b
  unfold add64
  cases na : isNan64 a <;> cases nb : isNan64 b <;> cases ia : isInf64 a <;> cases ib : isInf64 b <;> simp_all
  split <;> simp_all

/-- On finite values the IEEE order is the order of the exact values. -/
theorem order64_lt_iff {a b : F64} : order64 a < order64 b ↔ units64 a < units64 b := by
  have key : ∀ {p q : Nat}, p < q ↔ bitsMag p < bitsMag q := bitsMag_strictMono.lt_iff_lt.symm
  have k0 : ∀ p : Nat, 0 < p ↔ 0 < bitsMag p := fun p => by
    have := @key 0 p
    rwa [bitsMag_zero] at this
  have hl : ∀ x : F64, x.toNat % 2 ^ 63 = lowBits x := fun _ => rfl
  simp only [order64, units64, mag64_eq, hl]
  have h1 := @key (lowBits a) (lowBits b)
  have h2 := @key (lowBits b) (lowBits a)
  have h3 := k0 (lowBits a)
  have h4 := k0 (lowBits b)
  generalize lowBits a = p at *
  generalize lowBits b = q at *
  generalize bitsMag p = u at *
  generalize bitsMag q = v at *
  cases sign64 a <;> cases sign64 b <;> simp only [if_true, Bool.false_eq_true, if_false] <;> omega

theorem lt64_iff {a b : F64} (ha : isFinite64 a = true) (hb : isFinite64 b = true) :
    lt64 a b = true ↔ units64 a < units64 b := by
  simp [lt64, not_nan_of_finite ha, not_nan_of_finite hb, order64_lt_iff]

theorem le64_iff {a b : F64} (ha : isFinite64 a = true) (hb : isFinite64 b = true) :
    le64 a b = true ↔ units64 a ≤ units64 b := by
  have := @order64_lt_iff b a
  simp only [le64, not_nan_of_finite ha, not_nan_of_finite hb]
  simp
  omega

/-- The sum of finite values: an exact zero, or the rounded exact sum. -/
theorem add64_finite {a b : F64} (ha : isFinite64 a = true) (hb : isFinite64 b = true) :
    add64 a b =
      if units64 a + units64 b = 0 then signedZero (isZero64 a && isZero64 b && sign64 a && sign64 b)
      else roundInt64 (units64 a + units64 b) := by
  simp [add64, not_nan_of_finite ha, not_nan_of_finite hb]

end Sys2Proof.Machine
end

