-- ==== Sys2Proof/Laws/History.lean ====
section
/-! SUPPORT. The FIR history: what each entry is after a push, and the one list for one content (R48, R220). -/

namespace Sys2Proof.Machine

/-- Trimming changes no entry. -/
@[simp] theorem histGet_histTrim (h : List Cplx) (j : Nat) : histGet (histTrim h) j = histGet h j := by
  induction h generalizing j with
  | nil => rfl
  | cons z t ih =>
    simp only [histTrim]
    split
    · rename_i he
      have ht : ∀ k, histGet t k = czero := fun k => by rw [← ih k, he]; simp [histGet]
      split
      · subst_vars
        cases j with
        | zero => simp [histGet]
        | succ j => simpa [histGet] using (ht j).symm
      · cases j with
        | zero => simp [histGet]
        | succ j => simpa [histGet] using (ht j).symm
    · rename_i y u he
      cases j with
      | zero => simp [histGet]
      | succ j => have := ih j; rw [he] at this; simpa [histGet] using this

/-- A trimmed list stays as it is. -/
@[simp] theorem histTrim_histTrim (h : List Cplx) : histTrim (histTrim h) = histTrim h := by
  induction h with
  | nil => rfl
  | cons z t ih =>
    simp only [histTrim]
    split
    · split
      · rfl
      · rename_i hz; simp [histTrim, hz]
    · rename_i y u he
      rw [he] at ih
      simp only [histTrim] at ih ⊢
      rw [ih]

/-- Trimming lengthens nothing. -/
theorem histTrim_length_le (h : List Cplx) : (histTrim h).length ≤ h.length := by
  induction h with
  | nil => simp [histTrim]
  | cons z t ih =>
    simp only [histTrim]
    split
    · split <;> simp
    · rename_i y u he; rw [he] at ih; simpa using ih

/-- Trimming brings nothing in. -/
theorem mem_of_mem_histTrim {h : List Cplx} {z : Cplx} (hz : z ∈ histTrim h) : z ∈ h := by
  induction h with
  | nil => simp [histTrim] at hz
  | cons x t ih =>
    simp only [histTrim] at hz
    split at hz
    · split at hz
      · simp at hz
      · simp at hz; simp [hz]
    · rename_i y u he
      rcases List.mem_cons.1 hz with rfl | hz
      · exact List.mem_cons_self
      · exact List.mem_cons_of_mem _ (ih (he ▸ hz))

/-- The next HIST, entry by entry (R220). -/
theorem histGet_histPush (n : Nat) (m : Cplx) (h : List Cplx) (j : Nat) :
    histGet (histPush n m h) j =
      if n < 2 then histGet h j
      else if j = 0 then m
      else if j < n - 1 then histGet h (j - 1) else histGet h j := by
  unfold histPush
  split
  · rfl
  · rename_i hn
    rw [histGet_histTrim]
    cases j with
    | zero => simp [histGet]
    | succ j =>
      simp only [histGet, List.getD_eq_getElem?_getD, List.getElem?_cons_succ, Nat.succ_ne_zero, if_false,
        Nat.add_sub_cancel]
      by_cases hj : j + 1 < n - 1
      · rw [if_pos hj]
        by_cases hl : j < (h.take (n - 2)).length
        · rw [List.getElem?_append_left hl, List.getElem?_take_of_lt (by omega)]
        · have hl' : h.length ≤ j := by simp at hl; omega
          have hd : h.drop (n - 1) = [] := List.drop_eq_nil_of_le (by omega)
          rw [hd, List.append_nil, List.getElem?_eq_none (by omega), List.getElem?_eq_none hl']
      · rw [if_neg hj]
        by_cases hl : h.length ≤ n - 1
        · have hd : h.drop (n - 1) = [] := List.drop_eq_nil_of_le hl
          rw [hd, List.append_nil, List.getElem?_eq_none (by simp; omega), List.getElem?_eq_none (by omega)]
        · have ht : (h.take (n - 2)).length = n - 2 := by simp; omega
          rw [List.getElem?_append_right (by omega), ht, List.getElem?_drop]
          congr 2; omega

/-- A history of at most N−1 entries stays so. -/
theorem histPush_length_le {n : Nat} {m : Cplx} {h : List Cplx} (hl : h.length ≤ n - 1) :
    (histPush n m h).length ≤ n - 1 := by
  unfold histPush
  split
  · exact hl
  · refine (histTrim_length_le _).trans ?_
    simp; omega

/-- A trimmed history stays trimmed. -/
theorem histPush_trimmed {n : Nat} {m : Cplx} {h : List Cplx} (ht : histTrim h = h) :
    histTrim (histPush n m h) = histPush n m h := by
  unfold histPush
  split
  · exact ht
  · exact histTrim_histTrim _

/-- What a push holds is the new sample or was held before. -/
theorem mem_of_mem_histPush {n : Nat} {m z : Cplx} {h : List Cplx} (hz : z ∈ histPush n m h) : z = m ∨ z ∈ h := by
  unfold histPush at hz
  split at hz
  · exact .inr hz
  · rcases List.mem_cons.1 (mem_of_mem_histTrim hz) with hz | hz
    · exact .inl hz
    · rcases List.mem_append.1 hz with hz | hz
      · exact .inr (List.mem_of_mem_take hz)
      · exact .inr (List.mem_of_mem_drop hz)

end Sys2Proof.Machine
end

