-- ==== Sys2Proof/Laws/Stages.lean ====
section
/-! SUPPORT. What a beat can do, and the small facts of each stage. -/

namespace Sys2Proof.Machine

/-- Everything `Process` can do (R172, R174): the first stage with a value that is not finite faults, or the beat is
committed with every value on its way finite. -/
theorem processBeat_cases (x : Cplx) (n : U64) (s : State) :
    let y := dcbStep s.wAlpha s.dcPx s.dcPy x
    let m := ncoMix s.phi y
    let f := firOut (tapRead s.taps) s.wNtaps.toNat s.hist m
    (isFiniteC y = false ∧ processBeat x n s = numericAnomaly 1#3 n s) ∨
    (isFiniteC y = true ∧ isFiniteC m = false ∧ processBeat x n s = numericAnomaly 2#3 n s) ∨
    (isFiniteC y = true ∧ isFiniteC m = true ∧ isFiniteC f = false ∧ processBeat x n s = numericAnomaly 3#3 n s) ∨
    (isFiniteC y = true ∧ isFiniteC m = true ∧ isFiniteC f = true ∧
      ((demOnKept (decKeep s.decCnt) s f = none ∧ processBeat x n s = numericAnomaly 5#3 n s) ∨
        ∃ d, demOnKept (decKeep s.decCnt) s f = some d ∧ processBeat x n s = commitBeat x y m d s)) := by
  intro y m f
  by_cases hy : isFiniteC y = false
  · exact .inl ⟨hy, by simp only [processBeat]; exact if_pos hy⟩
  have hy' : isFiniteC y = true := by simpa using hy
  by_cases hm : isFiniteC m = false
  · refine .inr (.inl ⟨hy', hm, ?_⟩)
    simp only [processBeat]
    rw [if_neg hy, if_pos hm]
  have hm' : isFiniteC m = true := by simpa using hm
  by_cases hf : isFiniteC f = false
  · refine .inr (.inr (.inl ⟨hy', hm', hf, ?_⟩))
    simp only [processBeat]
    rw [if_neg hy, if_neg hm, if_pos hf]
  refine .inr (.inr (.inr ⟨hy', hm', by simpa using hf, ?_⟩))
  have key : processBeat x n s =
      match demOnKept (decKeep s.decCnt) s f with
      | none => numericAnomaly 5#3 n s
      | some d => commitBeat x y m d s := by
    simp only [processBeat]
    rw [if_neg hy, if_neg hm, if_neg hf]
    try rfl
  cases hd : demOnKept (decKeep s.decCnt) s f with
  | none => exact .inl ⟨rfl, by rw [key, hd]⟩
  | some d => exact .inr ⟨d, rfl, by rw [key, hd]⟩

/-- Everything the demodulator's part of a beat can give (R252). -/
theorem demOnKept_cases {keep : Bool} {s : State} {f : Cplx} {d : DemNext} (h : demOnKept keep s f = some d) :
    (keep = false ∧ d = ⟨none, s.demPrev, s.demHasPrev, s.demKept⟩) ∨
    (keep = true ∧ s.demHasPrev = false ∧ d = ⟨none, f, true, min (s.demKept + 1) 2⟩) ∨
    (keep = true ∧ s.demHasPrev = true ∧ isFiniteC (demProduct f s.demPrev) = true ∧
      d = ⟨some (angle (demProduct f s.demPrev)), f, true, min (s.demKept + 1) 2⟩) := by
  cases keep with
  | false => exact .inl ⟨rfl, by simpa [demOnKept] using h.symm⟩
  | true =>
    simp only [demOnKept, demStep, if_true] at h
    cases hp : s.demHasPrev with
    | false => exact .inr (.inl ⟨rfl, rfl, by simpa [hp] using h.symm⟩)
    | true =>
      rw [hp, if_pos rfl] at h
      split at h
      · exact .inr (.inr ⟨rfl, rfl, ‹_›, by simpa using h.symm⟩)
      · cases h

/-- The part of the demodulator that raises (R252). -/
theorem demOnKept_eq_none {keep : Bool} {s : State} {f : Cplx} :
    demOnKept keep s f = none ↔ keep = true ∧ s.demHasPrev = true ∧ isFiniteC (demProduct f s.demPrev) = false := by
  cases keep <;> cases hp : s.demHasPrev <;> simp [demOnKept, demStep, hp]

/-- A sum with one more tap (R220). -/
theorem firSum_succ (tap past : Nat → F64) (n : Nat) (m : F64) :
    firSum tap past (n + 2) m = add64 (firSum tap past (n + 1) m) (mul64 (tap (n + 1)) (past n)) := by
  simp [firSum, List.range_succ]

/-- The counter of the selector stays in its group (R240). -/
theorem decNext_toNat {cnt m : U32} (h : cnt.toNat < m.toNat) :
    (decNext cnt m).toNat = if cnt.toNat + 1 = m.toNat then 0 else cnt.toNat + 1 := by
  have hm := m.isLt
  unfold decNext
  split
  · rfl
  · rw [BitVec.toNat_add]
    simp only [BitVec.toNat_ofNat]
    omega

theorem decNext_lt {cnt m : U32} (h : cnt.toNat < m.toNat) : (decNext cnt m).toNat < m.toNat := by
  rw [decNext_toNat h]
  split <;> omega

/-- A kept value stays in its bound (property 1 of R203 and R253). -/
theorem within64_range {b v : F64} (hb : le64 (neg64 b) zero64 = true) (hb' : le64 zero64 b = true) :
    le64 (neg64 b) (within64 b v) = true ∧ le64 (within64 b v) b = true := by
  unfold within64
  split
  · rename_i h
    simpa using h
  · exact ⟨hb, hb'⟩

end Sys2Proof.Machine
end

