-- ==== Sys2Proof/Laws/Exec.lean ====
section
/-! SUPPORT. Everything one transaction can do to the state, said once for all 103 of them. -/

namespace Sys2Proof.Machine

open Sys2Proof.Safety

/-- The kinds of change a transaction makes when it answers with a next state: the instructions of each kind, and the
state after it. -/
inductive Change (i : Instr) (s t : State) : Prop where
  /-- Only the result: a refused access, a read without a side effect, or NOP. -/
  | quiet (r : Result) (h : t = { s with result := r })
  /-- A LO read of a live pair. -/
  | live (v : BitVec 64)
      (hi : (i = .rdNcoPhaseLo ∧ v = s.phi) ∨ (i = .rdInCountLo ∧ v = s.inCount) ∨ (i = .rdOutCountLo ∧ v = s.outCount))
      (h : t = answerLive v s)
  | irqStatus (w : U32) (hi : i = .wrIrqStatus w)
      (h : t = answerWrite { s with irqStatus := clearOnes s.irqStatus (irqBitsOperand w) })
  | irqEnable (w : U32) (hi : i = .wrIrqEnable w) (h : t = answerWrite { s with irqEnable := irqBitsOperand w })
  /-- A write of a configuration register. -/
  | config (fs m : U32) (alpha f : F64) (n : U32)
      (h : t = answerWrite
        { s with sampleRate := fs, decimM := m, dcAlpha := alpha, mixFreq := f, firNtaps := n })
  | tapAddr (w : U32) (hi : i = .wrTapAddr w) (hr : s.runState ≠ .run)
      (hw : (tapIndexOperand w).toNat < s.build.tapDepth) (h : t = answerWrite { s with tapAddr := tapIndexOperand w })
  | tapLo (w : U32) (hi : i = .wrTapDataLo w) (hr : s.runState ≠ .run) (h : t = answerWrite { s with tapWlo := w })
  | tapReadLo (hi : i = .rdTapDataLo) (ha : s.tapAddr.toNat < s.build.tapDepth)
      (h : t = answerRead (lo32 (tapRead s.taps s.tapAddr.toNat))
        { s with tapRhi := hi32 (tapRead s.taps s.tapAddr.toNat) })
  | tapReadHi (hi : i = .rdTapDataHi) (h : t = answerRead s.tapRhi { s with tapAddr := nextTapAddr s.build.tapDepth s.tapAddr })
  | tapHi (w : U32) (hi : i = .wrTapDataHi w) (hr : s.runState ≠ .run) (ha : s.tapAddr.toNat < s.build.tapDepth)
      (h : t = answerWrite
        { s with taps := tapWrite s.taps s.tapAddr.toNat (pair64 w s.tapWlo), tapAddr := nextTapAddr s.build.tapDepth s.tapAddr })
  | startFailed (hi : runsCommand .start i = true) (hr : s.runState ≠ .run) (e : ConfigFailure)
      (hc : checkConfig (startClear s) = .error e)
      (h : t = answerWrite (raiseFault 1#4 e.detail 0#3 e.index (startClear s)))
  | started (hi : runsCommand .start i = true) (hr : s.runState ≠ .run) (inc : F64)
      (hc : checkConfig (startClear s) = .ok inc) (h : t = answerWrite (startRun inc (startClear s)))
  | eosFailed (hi : runsCommand .eos i = true) (hr : s.runState = .run) (hk : s.demKept < 2)
      (h : t = answerWrite (raiseFault 3#4 0#4 5#3 s.inCount s))
  | eosDone (hi : runsCommand .eos i = true) (hr : s.runState = .run) (hk : 2 ≤ s.demKept)
      (h : t = answerWrite { s with runState := .done, irqStatus := setDone s.irqStatus })
  | aborted (hi : runsCommand .abort i = true)
      (h : t = answerWrite
        { s with runState := .idle, queue := [], errCause := ⟨0#4, 0#4, 0#3⟩, errIndex := 0#64 })
  | stagesReset (mask : BitVec 5) (hi : runsCommand (.stageReset mask) i = true)
      (h : t = answerWrite (clearStages mask s))
  /-- A beat that waits. -/
  | waits (b : Txn) (hb : canPerform s (.txn b) = false) (h : t = keepOffered b s)
  | beat (x q : F64) (hi : i = .inBeat x q) (hr : inReady s = true) (hn : s.wNtaps.toNat ≤ s.build.tapDepth)
      (h : t = acceptBeat ⟨x, q⟩ s)
  | delivered (hi : i = .outBeat) (v : F64) (rest : List F64) (hq : s.queue = v :: rest)
      (h : t = { s with queue := rest, result := .delivered v })

theorem runsCommand_wrCmd (c : Command) (w : U32) : runsCommand c (.wrCmd w) = (decodeCommand w == c) := rfl

theorem runsCommand_stageReset (c : Command) (m : BitVec 5) :
    runsCommand c (.stageReset m) = (c == .stageReset m) := rfl

/-- The next state is the one named. -/
theorem eq_of_next {a t : State} (h : (.next a : Host.Outcome State Fault Refusal) = .next t) : t = a := by
  injection h with h
  exact h.symm

theorem change_start {i : Instr} {s t : State} (hi : runsCommand .start i = true) (h : execStart s = .next t) :
    Change i s t := by
  rcases execStart_cases s with ⟨-, e⟩ | ⟨hr, x, hc, e⟩ | ⟨hr, x, hc, e⟩ <;> rw [e] at h <;> cases h
  · exact .quiet _ rfl
  · exact .startFailed hi hr x hc rfl
  · exact .started hi hr x hc rfl

theorem change_eos {i : Instr} {s t : State} (hi : runsCommand .eos i = true) (h : execEos s = .next t) :
    Change i s t := by
  rcases execEos_cases s with ⟨-, e⟩ | ⟨hr, hk, e⟩ | ⟨hr, hk, e⟩ <;> rw [e] at h <;> cases h
  · exact .quiet _ rfl
  · exact .eosFailed hi hr hk rfl
  · exact .eosDone hi hr hk rfl

theorem change_wrTapAddr {w : U32} {s t : State} (h : execWrTapAddr w s = .next t) : Change (.wrTapAddr w) s t := by
  unfold execWrTapAddr at h
  split at h
  · exact .quiet _ (eq_of_next h)
  · split at h
    · exact .quiet _ (eq_of_next h)
    · exact .tapAddr w rfl ‹_› (by omega) (eq_of_next h)

theorem change_wrTapDataLo {w : U32} {s t : State} (h : execWrTapDataLo w s = .next t) :
    Change (.wrTapDataLo w) s t := by
  unfold execWrTapDataLo at h
  split at h
  · exact .quiet _ (eq_of_next h)
  · exact .tapLo w rfl ‹_› (eq_of_next h)

theorem change_rdTapDataLo {s t : State} (h : execRdTapDataLo s = .next t) : Change .rdTapDataLo s t := by
  unfold execRdTapDataLo at h
  split at h
  · exact .tapReadLo rfl ‹_› (eq_of_next h)
  · cases h

theorem change_wrTapDataHi {w : U32} {s t : State} (h : execWrTapDataHi w s = .next t) :
    Change (.wrTapDataHi w) s t := by
  unfold execWrTapDataHi at h
  split at h
  · exact .quiet _ (eq_of_next h)
  · split at h
    · exact .tapHi w rfl ‹_› ‹_› (eq_of_next h)
    · cases h

theorem change_inBeat {x q : F64} {s t : State} (h : execInBeat x q s = .next t) : Change (.inBeat x q) s t := by
  rcases execInBeat_cases x q s with ⟨hr, e⟩ | ⟨hr, hn, e⟩ | ⟨hr, hn, e⟩ <;> rw [e] at h
  · exact .waits (.input (x ++ q)) hr (eq_of_next h)
  · exact .beat x q rfl hr hn (eq_of_next h)
  · cases h

theorem change_outBeat {s t : State} (h : execOutBeat s = .next t) : Change .outBeat s t := by
  unfold execOutBeat at h
  split at h
  · rename_i v rest hq
    exact .delivered rfl v rest hq (eq_of_next h)
  · rename_i hq
    exact .waits .output (by simp [canPerform, outAvail, hq]) (eq_of_next h)

theorem change_wrCmd {w : U32} {s t : State} (h : execWrCmd w s = .next t) : Change (.wrCmd w) s t := by
  have hc : ∀ c, decodeCommand w = c → runsCommand c (.wrCmd w) = true := fun c hc => by
    rw [runsCommand_wrCmd, hc, beq_self_eq_true]
  unfold execWrCmd at h
  split at h <;> rename_i hd
  · exact .quiet _ (eq_of_next h)
  · exact change_start (hc _ hd) h
  · exact change_eos (hc _ hd) h
  · exact .aborted (hc _ hd) (eq_of_next h)
  · exact .stagesReset _ (hc _ hd) (eq_of_next h)
  · exact .quiet _ (eq_of_next h)

/-- A transaction that answers with a next state makes one of these changes. -/
theorem change_of_exec {i : Instr} {s t : State} (h : exec i s = .next t) : Change i s t := by
  cases i with
  | rdNcoPhaseLo => exact .live _ (.inl ⟨rfl, rfl⟩) (eq_of_next h)
  | rdInCountLo => exact .live _ (.inr (.inl ⟨rfl, rfl⟩)) (eq_of_next h)
  | rdOutCountLo => exact .live _ (.inr (.inr ⟨rfl, rfl⟩)) (eq_of_next h)
  | wrIrqStatus w => exact .irqStatus w rfl (eq_of_next h)
  | wrIrqEnable w => exact .irqEnable w rfl (eq_of_next h)
  | wrSampleRate w => exact .config w s.decimM s.dcAlpha s.mixFreq s.firNtaps (eq_of_next h)
  | wrDecimM w => exact .config s.sampleRate w s.dcAlpha s.mixFreq s.firNtaps (eq_of_next h)
  | wrDcAlphaLo w => exact .config s.sampleRate s.decimM (withLo s.dcAlpha w) s.mixFreq s.firNtaps (eq_of_next h)
  | wrDcAlphaHi w => exact .config s.sampleRate s.decimM (withHi s.dcAlpha w) s.mixFreq s.firNtaps (eq_of_next h)
  | wrMixFreqLo w => exact .config s.sampleRate s.decimM s.dcAlpha (withLo s.mixFreq w) s.firNtaps (eq_of_next h)
  | wrMixFreqHi w => exact .config s.sampleRate s.decimM s.dcAlpha (withHi s.mixFreq w) s.firNtaps (eq_of_next h)
  | wrFirNtaps w => exact .config s.sampleRate s.decimM s.dcAlpha s.mixFreq w (eq_of_next h)
  | wrTapAddr w => exact change_wrTapAddr h
  | wrTapDataLo w => exact change_wrTapDataLo h
  | rdTapDataLo => exact change_rdTapDataLo h
  | wrTapDataHi w => exact change_wrTapDataHi h
  | rdTapDataHi => exact .tapReadHi rfl (eq_of_next h)
  | start => exact change_start rfl h
  | eos => exact change_eos rfl h
  | abort => exact .aborted rfl (eq_of_next h)
  | stageReset mask => exact .stagesReset mask (by rw [runsCommand_stageReset, beq_self_eq_true]) (eq_of_next h)
  | wrCmd w => exact change_wrCmd h
  | inBeat x q => exact change_inBeat h
  | outBeat => exact change_outBeat h
  | _ => exact .quiet _ (eq_of_next h)

/-- A beat leaves the build as it is. -/
theorem acceptBeat_build (z : Cplx) (s : State) : (acceptBeat z s).build = s.build := by
  unfold acceptBeat
  rcases processBeat_cases z s.inCount (countBeat s) with
    ⟨-, e⟩ | ⟨-, -, e⟩ | ⟨-, -, -, e⟩ | ⟨-, -, -, ⟨-, e⟩ | ⟨d, -, e⟩⟩ <;> rw [e] <;> rfl

/-- No transaction changes the build (R8, R54). -/
theorem Change.build_eq {i : Instr} {s t : State} (c : Change i s t) : t.build = s.build := by
  cases c with
  | beat x q hi hr hn h => rw [h, acceptBeat_build]
  | _ => subst_vars; rfl

/-- Everything one event can do. -/
theorem performEvent_cases {e : Event} {s t : State} (h : performEvent e s = .next t) :
    (e = .reset ∧ t = takeReset s) ∨ ∃ x, e = .txn x ∧ Change (decode x) s t := by
  cases e with
  | reset => exact .inl ⟨rfl, eq_of_next h⟩
  | txn x => exact .inr ⟨x, rfl, change_of_exec h⟩

/-- What an accepted beat leaves alone whether it is committed or faults, and what it does to the run (R172, R305). -/
theorem acceptBeat_frame (z : Cplx) (s : State) :
    (acceptBeat z s).taps = s.taps ∧ (acceptBeat z s).tapAddr = s.tapAddr ∧ (acceptBeat z s).snap = s.snap ∧
      (acceptBeat z s).irqEnable = s.irqEnable ∧ (acceptBeat z s).wAlpha = s.wAlpha ∧
      (acceptBeat z s).wInc = s.wInc ∧ (acceptBeat z s).wNtaps = s.wNtaps ∧ (acceptBeat z s).wM = s.wM ∧
      (acceptBeat z s).outRate = s.outRate ∧ (acceptBeat z s).rateInexact = s.rateInexact ∧
      (acceptBeat z s).firGain = s.firGain ∧ (acceptBeat z s).result = .accepted ∧
      (((acceptBeat z s).runState = s.runState ∧ (acceptBeat z s).irqStatus = s.irqStatus ∧
          (acceptBeat z s).errCause = s.errCause ∧ (acceptBeat z s).errIndex = s.errIndex) ∨
        ((acceptBeat z s).runState = .fault ∧ (acceptBeat z s).irqStatus = s.irqStatus ||| 0b10#2 ∧
          (acceptBeat z s).queue = [] ∧ (acceptBeat z s).errIndex = s.inCount ∧
          legalErrCause (acceptBeat z s).errCause = true)) := by
  unfold acceptBeat
  rcases processBeat_cases z s.inCount (countBeat s) with
    ⟨-, e⟩ | ⟨-, -, e⟩ | ⟨-, -, -, e⟩ | ⟨-, -, -, ⟨-, e⟩ | ⟨d, -, e⟩⟩ <;> rw [e] <;>
    simp [numericAnomaly, raiseFault, countBeat, commitBeat, setFault, legalErrCause]

/-- No event changes the build, reset included (R8, R54). -/
theorem performEvent_build {e : Event} {s t : State} (h : performEvent e s = .next t) : t.build = s.build := by
  rcases performEvent_cases h with ⟨-, rfl⟩ | ⟨x, -, c⟩
  · rfl
  · exact c.build_eq

end Sys2Proof.Machine
end

