-- ==== Sys2Proof/Laws/Memory.lean ====
section
/-! SUPPORT. The tap RAM: a read after a write, the one form kept by every write, and the two at the level of entries. -/

namespace Sys2Proof

/-- What a legal build is (R8). -/
theorem Config.Build.legal_iff (b : Config.Build) :
    b.legal = true ↔ 1 ≤ b.tapDepth ∧ b.tapDepth ≤ 65535 ∧ 1 ≤ b.outFifoDepth ∧ b.outFifoDepth ≤ 255 := by
  simp [Config.Build.legal]

end Sys2Proof

namespace Sys2Proof.Machine

/-- A byte read after one byte is written. -/
@[simp] theorem memRead_memWrite (m : Memory) (a b : Nat) (v : Byte) :
    memRead (memWrite m a v) b = if a = b then some v else memRead m b := by
  induction m with
  | nil => simp [memWrite, memRead]
  | cons x m ih =>
    obtain ⟨c, w⟩ := x
    simp only [memWrite]
    split
    · simp [memRead]
    · split
      · subst_vars
        simp only [memRead]
        split <;> rfl
      · rename_i h1 h2
        simp only [memRead, ih]
        by_cases hcb : c = b
        · have : ¬a = b := fun h => h2 (h.trans hcb.symm)
          simp [hcb, this]
        · simp [hcb]

/-- What `Memory.wf` says. -/
theorem Memory.wf_iff (m : Memory) (depth : Nat) :
    m.wf depth = true ↔ m.Pairwise (fun x y => x.1 < y.1) ∧ ∀ x ∈ m, x.1 < 8 * depth := by
  simp [Memory.wf]

/-- Every listed address of the written memory is the written one or was listed before. -/
theorem mem_memWrite {m : Memory} {a : Nat} {v : Byte} {x : Host.Cell} (h : x ∈ memWrite m a v) :
    x = (a, v) ∨ x ∈ m := by
  induction m with
  | nil => simpa [memWrite] using h
  | cons y m ih =>
    simp only [memWrite] at h
    split at h
    · simpa using h
    · split at h
      · rcases List.mem_cons.1 h with h | h
        · exact .inl h
        · exact .inr (List.mem_cons_of_mem _ h)
      · rcases List.mem_cons.1 h with h | h
        · exact .inr (h ▸ List.mem_cons_self)
        · exact (ih h).imp id (List.mem_cons_of_mem _)

/-- A write inside the image keeps the one form. -/
theorem memWrite_wf {m : Memory} {depth a : Nat} {v : Byte} (h : m.wf depth = true) (ha : a < 8 * depth) :
    (memWrite m a v).wf depth = true := by
  rw [Memory.wf_iff] at h ⊢
  obtain ⟨hp, hb⟩ := h
  constructor
  · clear hb
    induction m with
    | nil => simp [memWrite]
    | cons y m ih =>
      obtain ⟨hy, hm⟩ := List.pairwise_cons.1 hp
      simp only [memWrite]
      split
      · rename_i hlt
        refine List.pairwise_cons.2 ⟨fun z hz => ?_, hp⟩
        rcases List.mem_cons.1 hz with rfl | hz
        · exact hlt
        · exact hlt.trans (hy z hz)
      · split
        · rename_i heq
          exact List.pairwise_cons.2 ⟨fun z hz => by simpa [heq] using hy z hz, hm⟩
        · rename_i h1 h2
          refine List.pairwise_cons.2 ⟨fun z hz => ?_, ih hm⟩
          rcases mem_memWrite hz with rfl | hz
          · exact Nat.lt_of_le_of_ne (Nat.le_of_not_lt h1) (Ne.symm h2)
          · exact hy z hz
  · intro x hx
    rcases mem_memWrite hx with rfl | hx
    · exact ha
    · exact hb x hx

/-- A byte read after the first `n` bytes of a value are written from `a` up. -/
theorem memRead_memWriteBytes (m : Memory) (a b : Nat) (v : F64) (n : Nat) :
    memRead (memWriteBytes m a v n) b =
      if a ≤ b ∧ b < a + n then some (v.extractLsb' (8 * (b - a)) 8) else memRead m b := by
  induction n with
  | zero => simp [memWriteBytes]
  | succ n ih =>
    simp only [memWriteBytes, memRead_memWrite, ih]
    by_cases h : a + n = b
    · subst h; simp
    · have : (a ≤ b ∧ b < a + n) ↔ (a ≤ b ∧ b < a + (n + 1)) := by omega
      simp [h, this]

/-- A byte read after an entry is written: one of the entry's eight, or as before. -/
theorem memRead_tapWrite (m : Memory) (i b : Nat) (v : F64) :
    memRead (tapWrite m i v) b =
      if 8 * i ≤ b ∧ b < 8 * i + 8 then some (v.extractLsb' (8 * (b - 8 * i)) 8) else memRead m b :=
  memRead_memWriteBytes m (8 * i) b v 8

/-- A write of an entry the RAM has keeps the one form. -/
theorem tapWrite_wf {m : Memory} {depth i : Nat} {v : F64} (h : m.wf depth = true) (hi : i < depth) :
    (tapWrite m i v).wf depth = true := by
  have key : ∀ n, n ≤ 8 → (memWriteBytes m (8 * i) v n).wf depth = true := by
    intro n
    induction n with
    | zero => intro _; exact h
    | succ n ih => intro hn; exact memWrite_wf (ih (by omega)) (by omega)
  exact key 8 (Nat.le_refl 8)

/-- Eight bytes put together are the value they were cut from. -/
theorem bytes_append (v : F64) :
    v.extractLsb' 56 8 ++ v.extractLsb' 48 8 ++ v.extractLsb' 40 8 ++ v.extractLsb' 32 8 ++
      v.extractLsb' 24 8 ++ v.extractLsb' 16 8 ++ v.extractLsb' 8 8 ++ v.extractLsb' 0 8 = v := by
  apply BitVec.eq_of_getLsbD_eq
  intro i hi
  simp only [BitVec.getLsbD_append, BitVec.getLsbD_extractLsb']
  by_cases h0 : i < 8
  · simp [h0]
  by_cases h1 : i - 8 < 8
  · simp [h0, h1]; congr 1; omega
  by_cases h2 : i - 8 - 8 < 8
  · simp [h0, h1, h2]; congr 1; omega
  by_cases h3 : i - 8 - 8 - 8 < 8
  · simp [h0, h1, h2, h3]; congr 1; omega
  by_cases h4 : i - 8 - 8 - 8 - 8 < 8
  · simp [h0, h1, h2, h3, h4]; congr 1; omega
  by_cases h5 : i - 8 - 8 - 8 - 8 - 8 < 8
  · simp [h0, h1, h2, h3, h4, h5]; congr 1; omega
  by_cases h6 : i - 8 - 8 - 8 - 8 - 8 - 8 < 8
  · simp [h0, h1, h2, h3, h4, h5, h6]; congr 1; omega
  have h7 : i - 8 - 8 - 8 - 8 - 8 - 8 - 8 < 8 := by omega
  simp [h0, h1, h2, h3, h4, h5, h6, h7]; congr 1; omega

/-- `TapRead(j)` after `TapWrite(i, v)`. -/
@[simp] theorem tapRead_tapWrite (m : Memory) (i j : Nat) (v : F64) :
    tapRead (tapWrite m i v) j = if j = i then v else tapRead m j := by
  by_cases h : j = i
  · subst h
    have e : ∀ k, k < 8 → tapByte (tapWrite m j v) (8 * j + k) = v.extractLsb' (8 * k) 8 := by
      intro k hk
      have : 8 * j ≤ 8 * j + k ∧ 8 * j + k < 8 * j + 8 := by omega
      simp [tapByte, memRead_tapWrite, this]
    have e0 := e 0 (by omega)
    simp only [Nat.add_zero, Nat.mul_zero] at e0
    simp only [tapRead, e0, e 1 (by omega), e 2 (by omega), e 3 (by omega), e 4 (by omega), e 5 (by omega),
      e 6 (by omega), e 7 (by omega), if_true]
    exact bytes_append v
  · have e : ∀ k, k < 8 → tapByte (tapWrite m i v) (8 * j + k) = tapByte m (8 * j + k) := by
      intro k hk
      have : ¬(8 * i ≤ 8 * j + k ∧ 8 * j + k < 8 * i + 8) := by omega
      simp only [tapByte, memRead_tapWrite, if_neg this]
    have e0 := e 0 (by omega)
    simp only [Nat.add_zero] at e0
    simp only [tapRead, e0, e 1 (by omega), e 2 (by omega), e 3 (by omega), e 4 (by omega), e 5 (by omega),
      e 6 (by omega), e 7 (by omega), if_neg h]

/-- TAP_ADDR stays in range when it advances, in every legal build (R8, R36). -/
theorem nextTapAddr_toNat {b : Config.Build} (hb : b.legal = true) (x : BitVec 16) :
    (nextTapAddr b.tapDepth x).toNat = (x.toNat + 1) % b.tapDepth := by
  have hl := (Config.Build.legal_iff b).1 hb
  have : (x.toNat + 1) % b.tapDepth < b.tapDepth := Nat.mod_lt _ (by omega)
  simp only [nextTapAddr, BitVec.toNat_ofNat]
  exact Nat.mod_eq_of_lt (by omega)

end Sys2Proof.Machine
end

