-- ==== Sys2Proof/Laws/PerInstr.lean ====
section
/-! SUPPORT. The per-instruction family RoundTrip: decoding what the encoder writes gives the instruction back. -/

namespace Sys2Proof.Laws

/-- Decoding the encoding of a well-formed instruction gives it back. -/
def RoundTrip.Statement (i : Instr) : Prop := i.wellFormed = true → decode (encode i) = i

theorem RoundTrip.wrBadstrb0000 (addr : BitVec 12) (wdata : U32) : RoundTrip.Statement (.wrBadstrb0000 addr wdata) := fun _ => rfl
theorem RoundTrip.wrBadstrb0001 (addr : BitVec 12) (wdata : U32) : RoundTrip.Statement (.wrBadstrb0001 addr wdata) := fun _ => rfl
theorem RoundTrip.wrBadstrb0010 (addr : BitVec 12) (wdata : U32) : RoundTrip.Statement (.wrBadstrb0010 addr wdata) := fun _ => rfl
theorem RoundTrip.wrBadstrb0011 (addr : BitVec 12) (wdata : U32) : RoundTrip.Statement (.wrBadstrb0011 addr wdata) := fun _ => rfl
theorem RoundTrip.wrBadstrb0100 (addr : BitVec 12) (wdata : U32) : RoundTrip.Statement (.wrBadstrb0100 addr wdata) := fun _ => rfl
theorem RoundTrip.wrBadstrb0101 (addr : BitVec 12) (wdata : U32) : RoundTrip.Statement (.wrBadstrb0101 addr wdata) := fun _ => rfl
theorem RoundTrip.wrBadstrb0110 (addr : BitVec 12) (wdata : U32) : RoundTrip.Statement (.wrBadstrb0110 addr wdata) := fun _ => rfl
theorem RoundTrip.wrBadstrb0111 (addr : BitVec 12) (wdata : U32) : RoundTrip.Statement (.wrBadstrb0111 addr wdata) := fun _ => rfl
theorem RoundTrip.wrBadstrb1000 (addr : BitVec 12) (wdata : U32) : RoundTrip.Statement (.wrBadstrb1000 addr wdata) := fun _ => rfl
theorem RoundTrip.wrBadstrb1001 (addr : BitVec 12) (wdata : U32) : RoundTrip.Statement (.wrBadstrb1001 addr wdata) := fun _ => rfl
theorem RoundTrip.wrBadstrb1010 (addr : BitVec 12) (wdata : U32) : RoundTrip.Statement (.wrBadstrb1010 addr wdata) := fun _ => rfl
theorem RoundTrip.wrBadstrb1011 (addr : BitVec 12) (wdata : U32) : RoundTrip.Statement (.wrBadstrb1011 addr wdata) := fun _ => rfl
theorem RoundTrip.wrBadstrb1100 (addr : BitVec 12) (wdata : U32) : RoundTrip.Statement (.wrBadstrb1100 addr wdata) := fun _ => rfl
theorem RoundTrip.wrBadstrb1101 (addr : BitVec 12) (wdata : U32) : RoundTrip.Statement (.wrBadstrb1101 addr wdata) := fun _ => rfl
theorem RoundTrip.wrBadstrb1110 (addr : BitVec 12) (wdata : U32) : RoundTrip.Statement (.wrBadstrb1110 addr wdata) := fun _ => rfl
theorem RoundTrip.rdMisaligned1 (addr : BitVec 12) : RoundTrip.Statement (.rdMisaligned1 addr) := fun h => decodeRead_misaligned1 addr (misalignedBy_iff.1 h)
theorem RoundTrip.wrMisaligned1 (addr : BitVec 12) (wdata : U32) : RoundTrip.Statement (.wrMisaligned1 addr wdata) := fun h => decodeWriteFull_misaligned1 addr wdata (misalignedBy_iff.1 h)
theorem RoundTrip.rdMisaligned2 (addr : BitVec 12) : RoundTrip.Statement (.rdMisaligned2 addr) := fun h => decodeRead_misaligned2 addr (misalignedBy_iff.1 h)
theorem RoundTrip.wrMisaligned2 (addr : BitVec 12) (wdata : U32) : RoundTrip.Statement (.wrMisaligned2 addr wdata) := fun h => decodeWriteFull_misaligned2 addr wdata (misalignedBy_iff.1 h)
theorem RoundTrip.rdMisaligned3 (addr : BitVec 12) : RoundTrip.Statement (.rdMisaligned3 addr) := fun h => decodeRead_misaligned3 addr (misalignedBy_iff.1 h)
theorem RoundTrip.wrMisaligned3 (addr : BitVec 12) (wdata : U32) : RoundTrip.Statement (.wrMisaligned3 addr wdata) := fun h => decodeWriteFull_misaligned3 addr wdata (misalignedBy_iff.1 h)
theorem RoundTrip.rdId : RoundTrip.Statement .rdId := fun _ => rfl
theorem RoundTrip.wrRoId (wdata : U32) : RoundTrip.Statement (.wrRoId wdata) := fun _ => rfl
theorem RoundTrip.rdParams : RoundTrip.Statement .rdParams := fun _ => rfl
theorem RoundTrip.wrRoParams (wdata : U32) : RoundTrip.Statement (.wrRoParams wdata) := fun _ => rfl
theorem RoundTrip.rdCmd : RoundTrip.Statement .rdCmd := fun _ => rfl
theorem RoundTrip.wrCmd (wdata : U32) : RoundTrip.Statement (.wrCmd wdata) := fun _ => rfl
theorem RoundTrip.rdStatus : RoundTrip.Statement .rdStatus := fun _ => rfl
theorem RoundTrip.wrRoStatus (wdata : U32) : RoundTrip.Statement (.wrRoStatus wdata) := fun _ => rfl
theorem RoundTrip.rdErrCause : RoundTrip.Statement .rdErrCause := fun _ => rfl
theorem RoundTrip.wrRoErrCause (wdata : U32) : RoundTrip.Statement (.wrRoErrCause wdata) := fun _ => rfl
theorem RoundTrip.rdErrIndexLo : RoundTrip.Statement .rdErrIndexLo := fun _ => rfl
theorem RoundTrip.wrRoErrIndexLo (wdata : U32) : RoundTrip.Statement (.wrRoErrIndexLo wdata) := fun _ => rfl
theorem RoundTrip.rdErrIndexHi : RoundTrip.Statement .rdErrIndexHi := fun _ => rfl
theorem RoundTrip.wrRoErrIndexHi (wdata : U32) : RoundTrip.Statement (.wrRoErrIndexHi wdata) := fun _ => rfl
theorem RoundTrip.rdIrqStatus : RoundTrip.Statement .rdIrqStatus := fun _ => rfl
theorem RoundTrip.wrIrqStatus (wdata : U32) : RoundTrip.Statement (.wrIrqStatus wdata) := fun _ => rfl
theorem RoundTrip.rdIrqEnable : RoundTrip.Statement .rdIrqEnable := fun _ => rfl
theorem RoundTrip.wrIrqEnable (wdata : U32) : RoundTrip.Statement (.wrIrqEnable wdata) := fun _ => rfl
theorem RoundTrip.rdSampleRate : RoundTrip.Statement .rdSampleRate := fun _ => rfl
theorem RoundTrip.wrSampleRate (wdata : U32) : RoundTrip.Statement (.wrSampleRate wdata) := fun _ => rfl
theorem RoundTrip.rdDecimM : RoundTrip.Statement .rdDecimM := fun _ => rfl
theorem RoundTrip.wrDecimM (wdata : U32) : RoundTrip.Statement (.wrDecimM wdata) := fun _ => rfl
theorem RoundTrip.rdDcAlphaLo : RoundTrip.Statement .rdDcAlphaLo := fun _ => rfl
theorem RoundTrip.wrDcAlphaLo (wdata : U32) : RoundTrip.Statement (.wrDcAlphaLo wdata) := fun _ => rfl
theorem RoundTrip.rdDcAlphaHi : RoundTrip.Statement .rdDcAlphaHi := fun _ => rfl
theorem RoundTrip.wrDcAlphaHi (wdata : U32) : RoundTrip.Statement (.wrDcAlphaHi wdata) := fun _ => rfl
theorem RoundTrip.rdMixFreqLo : RoundTrip.Statement .rdMixFreqLo := fun _ => rfl
theorem RoundTrip.wrMixFreqLo (wdata : U32) : RoundTrip.Statement (.wrMixFreqLo wdata) := fun _ => rfl
theorem RoundTrip.rdMixFreqHi : RoundTrip.Statement .rdMixFreqHi := fun _ => rfl
theorem RoundTrip.wrMixFreqHi (wdata : U32) : RoundTrip.Statement (.wrMixFreqHi wdata) := fun _ => rfl
theorem RoundTrip.rdFirNtaps : RoundTrip.Statement .rdFirNtaps := fun _ => rfl
theorem RoundTrip.wrFirNtaps (wdata : U32) : RoundTrip.Statement (.wrFirNtaps wdata) := fun _ => rfl
theorem RoundTrip.rdTapAddr : RoundTrip.Statement .rdTapAddr := fun _ => rfl
theorem RoundTrip.wrTapAddr (wdata : U32) : RoundTrip.Statement (.wrTapAddr wdata) := fun _ => rfl
theorem RoundTrip.rdTapDataLo : RoundTrip.Statement .rdTapDataLo := fun _ => rfl
theorem RoundTrip.wrTapDataLo (wdata : U32) : RoundTrip.Statement (.wrTapDataLo wdata) := fun _ => rfl
theorem RoundTrip.rdTapDataHi : RoundTrip.Statement .rdTapDataHi := fun _ => rfl
theorem RoundTrip.wrTapDataHi (wdata : U32) : RoundTrip.Statement (.wrTapDataHi wdata) := fun _ => rfl
theorem RoundTrip.rdNcoIncLo : RoundTrip.Statement .rdNcoIncLo := fun _ => rfl
theorem RoundTrip.wrRoNcoIncLo (wdata : U32) : RoundTrip.Statement (.wrRoNcoIncLo wdata) := fun _ => rfl
theorem RoundTrip.rdNcoIncHi : RoundTrip.Statement .rdNcoIncHi := fun _ => rfl
theorem RoundTrip.wrRoNcoIncHi (wdata : U32) : RoundTrip.Statement (.wrRoNcoIncHi wdata) := fun _ => rfl
theorem RoundTrip.rdNcoPhaseLo : RoundTrip.Statement .rdNcoPhaseLo := fun _ => rfl
theorem RoundTrip.wrRoNcoPhaseLo (wdata : U32) : RoundTrip.Statement (.wrRoNcoPhaseLo wdata) := fun _ => rfl
theorem RoundTrip.rdNcoPhaseHi : RoundTrip.Statement .rdNcoPhaseHi := fun _ => rfl
theorem RoundTrip.wrRoNcoPhaseHi (wdata : U32) : RoundTrip.Statement (.wrRoNcoPhaseHi wdata) := fun _ => rfl
theorem RoundTrip.rdInCountLo : RoundTrip.Statement .rdInCountLo := fun _ => rfl
theorem RoundTrip.wrRoInCountLo (wdata : U32) : RoundTrip.Statement (.wrRoInCountLo wdata) := fun _ => rfl
theorem RoundTrip.rdInCountHi : RoundTrip.Statement .rdInCountHi := fun _ => rfl
theorem RoundTrip.wrRoInCountHi (wdata : U32) : RoundTrip.Statement (.wrRoInCountHi wdata) := fun _ => rfl
theorem RoundTrip.rdOutCountLo : RoundTrip.Statement .rdOutCountLo := fun _ => rfl
theorem RoundTrip.wrRoOutCountLo (wdata : U32) : RoundTrip.Statement (.wrRoOutCountLo wdata) := fun _ => rfl
theorem RoundTrip.rdOutCountHi : RoundTrip.Statement .rdOutCountHi := fun _ => rfl
theorem RoundTrip.wrRoOutCountHi (wdata : U32) : RoundTrip.Statement (.wrRoOutCountHi wdata) := fun _ => rfl
theorem RoundTrip.rdOutRate : RoundTrip.Statement .rdOutRate := fun _ => rfl
theorem RoundTrip.wrRoOutRate (wdata : U32) : RoundTrip.Statement (.wrRoOutRate wdata) := fun _ => rfl
theorem RoundTrip.rdFirGainLo : RoundTrip.Statement .rdFirGainLo := fun _ => rfl
theorem RoundTrip.wrRoFirGainLo (wdata : U32) : RoundTrip.Statement (.wrRoFirGainLo wdata) := fun _ => rfl
theorem RoundTrip.rdFirGainHi : RoundTrip.Statement .rdFirGainHi := fun _ => rfl
theorem RoundTrip.wrRoFirGainHi (wdata : U32) : RoundTrip.Statement (.wrRoFirGainHi wdata) := fun _ => rfl
theorem RoundTrip.rdUnmapped014 : RoundTrip.Statement .rdUnmapped014 := fun _ => rfl
theorem RoundTrip.wrUnmapped014 (wdata : U32) : RoundTrip.Statement (.wrUnmapped014 wdata) := fun _ => rfl
theorem RoundTrip.rdUnmapped074 : RoundTrip.Statement .rdUnmapped074 := fun _ => rfl
theorem RoundTrip.wrUnmapped074 (wdata : U32) : RoundTrip.Statement (.wrUnmapped074 wdata) := fun _ => rfl
theorem RoundTrip.rdUnmappedHiB7 (addr : BitVec 12) : RoundTrip.Statement (.rdUnmappedHiB7 addr) := fun h => decodeRead_highB7 addr (alignedIn_iff.1 h)
theorem RoundTrip.wrUnmappedHiB7 (addr : BitVec 12) (wdata : U32) : RoundTrip.Statement (.wrUnmappedHiB7 addr wdata) := fun h => decodeWriteFull_highB7 addr wdata (alignedIn_iff.1 h)
theorem RoundTrip.rdUnmappedHiB8 (addr : BitVec 12) : RoundTrip.Statement (.rdUnmappedHiB8 addr) := fun h => decodeRead_highB8 addr (alignedIn_iff.1 h)
theorem RoundTrip.wrUnmappedHiB8 (addr : BitVec 12) (wdata : U32) : RoundTrip.Statement (.wrUnmappedHiB8 addr wdata) := fun h => decodeWriteFull_highB8 addr wdata (alignedIn_iff.1 h)
theorem RoundTrip.rdUnmappedHiB9 (addr : BitVec 12) : RoundTrip.Statement (.rdUnmappedHiB9 addr) := fun h => decodeRead_highB9 addr (alignedIn_iff.1 h)
theorem RoundTrip.wrUnmappedHiB9 (addr : BitVec 12) (wdata : U32) : RoundTrip.Statement (.wrUnmappedHiB9 addr wdata) := fun h => decodeWriteFull_highB9 addr wdata (alignedIn_iff.1 h)
theorem RoundTrip.rdUnmappedHiB10 (addr : BitVec 12) : RoundTrip.Statement (.rdUnmappedHiB10 addr) := fun h => decodeRead_highB10 addr (alignedIn_iff.1 h)
theorem RoundTrip.wrUnmappedHiB10 (addr : BitVec 12) (wdata : U32) : RoundTrip.Statement (.wrUnmappedHiB10 addr wdata) := fun h => decodeWriteFull_highB10 addr wdata (alignedIn_iff.1 h)
theorem RoundTrip.rdUnmappedHiB11 (addr : BitVec 12) : RoundTrip.Statement (.rdUnmappedHiB11 addr) := fun h => decodeRead_highB11 addr (alignedIn_iff.1 h)
theorem RoundTrip.wrUnmappedHiB11 (addr : BitVec 12) (wdata : U32) : RoundTrip.Statement (.wrUnmappedHiB11 addr wdata) := fun h => decodeWriteFull_highB11 addr wdata (alignedIn_iff.1 h)
theorem RoundTrip.nop : RoundTrip.Statement .nop := fun _ => rfl
theorem RoundTrip.start : RoundTrip.Statement .start := fun _ => rfl
theorem RoundTrip.eos : RoundTrip.Statement .eos := fun _ => rfl
theorem RoundTrip.abort : RoundTrip.Statement .abort := fun _ => rfl
theorem RoundTrip.stageReset (smask : BitVec 5) : RoundTrip.Statement (.stageReset smask) := fun _ => congrArg Command.toInstr (decodeCommand_stageReset smask)
theorem RoundTrip.cmdIllegal (word : U32) : RoundTrip.Statement (.cmdIllegal word) := fun h => congrArg Command.toInstr (decodeCommand_illegal h)
theorem RoundTrip.inBeat (i : F64) (q : F64) : RoundTrip.Statement (.inBeat i q) := fun _ => decode_input_append i q
theorem RoundTrip.outBeat : RoundTrip.Statement .outBeat := fun _ => rfl

end Sys2Proof.Laws
end

