-- ==== Sys2Proof/Laws/Schedule.lean ====
section
/-! SUPPORT. The order in which offered events are taken, and what one step is (R6, R67). -/

namespace Sys2Proof.Machine

/-- Which event `firstReady` finds: the list is what the block cannot perform, the event, and the rest. -/
theorem firstReady_eq_some {s : State} {es rest : List Event} {e : Event} (h : firstReady s es = some (e, rest)) :
    ∃ pre post, es = pre ++ e :: post ∧ rest = pre ++ post ∧ canPerform s e = true ∧
      ∀ x ∈ pre, canPerform s x = false := by
  induction es generalizing rest with
  | nil => simp [firstReady] at h
  | cons x es ih =>
    simp only [firstReady] at h
    split at h
    · rename_i hx
      simp only [Option.some.injEq, Prod.mk.injEq] at h
      obtain ⟨rfl, rfl⟩ := h
      exact ⟨[], es, rfl, rfl, hx, by simp⟩
    · rename_i hx
      split at h
      · rename_i y r hr
        simp only [Option.some.injEq, Prod.mk.injEq] at h
        obtain ⟨rfl, rfl⟩ := h
        obtain ⟨pre, post, h1, h2, h3, h4⟩ := ih hr
        exact ⟨x :: pre, post, by rw [h1]; rfl, by rw [h2]; rfl, h3, by simpa [hx] using h4⟩
      · simp at h

/-- `firstReady` finds nothing when the block can perform none of the events. -/
theorem firstReady_eq_none {s : State} {es : List Event} :
    firstReady s es = none ↔ ∀ e ∈ es, canPerform s e = false := by
  induction es with
  | nil => simp [firstReady]
  | cons x es ih =>
    simp only [firstReady]
    split
    · rename_i hx; simp [hx]
    · rename_i hx
      have hx : canPerform s x = false := by simpa using hx
      split
      · rename_i y r hr
        have : firstReady s es ≠ none := by simp [hr]
        simp only [reduceCtorEq, false_iff]
        intro h
        exact this (ih.2 fun e he => h e (List.mem_cons_of_mem _ he))
      · rename_i hr
        simpa [hx] using ih.1 hr

/-- `firstReady` on a list whose first ready event is known. -/
theorem firstReady_append {s : State} {pre post : List Event} {e : Event}
    (hp : ∀ x ∈ pre, canPerform s x = false) (he : canPerform s e = true) :
    firstReady s (pre ++ e :: post) = some (e, pre ++ post) := by
  induction pre with
  | nil => simp [firstReady, he]
  | cons x pre ih =>
    have hx := hp x List.mem_cons_self
    simp [firstReady, hx, ih fun y hy => hp y (List.mem_cons_of_mem _ hy)]

/-- One step, once for all: nothing is offered and nothing happens; or the event it turns to is performed on the state
in which the others stay offered. -/
theorem step_cases (s : State) :
    (s.offered = [] ∧ step s = .next s) ∨
      ∃ e rest, nextEvent s = some (e, rest) ∧ step s = performEvent e { s with offered := rest } := by
  unfold step
  cases h : nextEvent s with
  | none =>
    refine .inl ⟨?_, rfl⟩
    unfold nextEvent at h
    split at h <;> simp_all
  | some r => exact .inr ⟨r.1, r.2, rfl, rfl⟩

end Sys2Proof.Machine
end

