-- ==== Sys2Proof/Tests/Slice0.lean ====
section
/-! SUPPORT. The model's own tests: the checks of WellFormed, the decoding of every row, a few effects worked out from
95_test_vectors.md, and for each statement with hypotheses a state and operands that meet them. -/

set_option maxRecDepth 20000

namespace Sys2Proof.Tests

open Sys2Proof Sys2Proof.Machine Sys2Proof.Safety

/-! WellFormed: each check refuses an ill-formed term and accepts one at its boundary -/

theorem test_wf_misaligned_refuses :
    [Instr.rdMisaligned1 0x002#12, .wrMisaligned1 0x000#12 0#32, .rdMisaligned2 0x001#12, .wrMisaligned2 0x003#12 0#32,
      .rdMisaligned3 0x004#12, .wrMisaligned3 0x002#12 0#32].all (fun i => !i.wellFormed) = true := by decide

theorem test_wf_unmapped_refuses :
    [Instr.rdUnmappedHiB7 0x07C#12, .wrUnmappedHiB7 0x100#12 0#32, .rdUnmappedHiB8 0x102#12, .wrUnmappedHiB8 0x200#12 0#32,
      .rdUnmappedHiB9 0x1FC#12, .wrUnmappedHiB9 0x400#12 0#32, .rdUnmappedHiB10 0x801#12,
      .wrUnmappedHiB10 0x3FC#12 0#32, .rdUnmappedHiB11 0x7FC#12, .wrUnmappedHiB11 0xFFF#12 0#32].all
        (fun i => !i.wellFormed) = true := by decide

theorem test_wf_illegal_word_refuses :
    [Instr.cmdIllegal 0x00000000#32, .cmdIllegal 0x00000003#32, .cmdIllegal 0x00001F04#32].all
      (fun i => !i.wellFormed) = true := by decide

theorem test_wf_boundaries_accepted :
    [Instr.rdMisaligned1 0xFFD#12, .wrMisaligned2 0x002#12 0#32, .rdMisaligned3 0xFFF#12, .rdUnmappedHiB7 0x080#12,
      .wrUnmappedHiB7 0x0FC#12 0#32, .rdUnmappedHiB11 0x800#12, .wrUnmappedHiB11 0xFFC#12 0#32,
      .cmdIllegal 0x00000005#32, .cmdIllegal 0x00002000#32, .cmdIllegal 0x00000100#32].all
        (fun i => i.wellFormed) = true := by decide

/-! Decoding: a word of every row, written out from its match and mask in 30_encoding.md -/

theorem test_decode_partial_strobes :
    decodeTableWord 24 0x10123 = some (.wrBadstrb0000 0x123#12 0#32) ∧
    decodeTableWord 24 0x1112A = some (.wrBadstrb0001 0x12A#12 0#32) ∧
    decodeTableWord 24 0x12131 = some (.wrBadstrb0010 0x131#12 0#32) ∧
    decodeTableWord 24 0x13138 = some (.wrBadstrb0011 0x138#12 0#32) ∧
    decodeTableWord 24 0x1413F = some (.wrBadstrb0100 0x13F#12 0#32) ∧
    decodeTableWord 24 0x15146 = some (.wrBadstrb0101 0x146#12 0#32) ∧
    decodeTableWord 24 0x1614D = some (.wrBadstrb0110 0x14D#12 0#32) ∧
    decodeTableWord 24 0x17154 = some (.wrBadstrb0111 0x154#12 0#32) ∧
    decodeTableWord 24 0x1815B = some (.wrBadstrb1000 0x15B#12 0#32) ∧
    decodeTableWord 24 0x19162 = some (.wrBadstrb1001 0x162#12 0#32) ∧
    decodeTableWord 24 0x1A169 = some (.wrBadstrb1010 0x169#12 0#32) ∧
    decodeTableWord 24 0x1B170 = some (.wrBadstrb1011 0x170#12 0#32) ∧
    decodeTableWord 24 0x1C177 = some (.wrBadstrb1100 0x177#12 0#32) ∧
    decodeTableWord 24 0x1D17E = some (.wrBadstrb1101 0x17E#12 0#32) ∧
    decodeTableWord 24 0x1E185 = some (.wrBadstrb1110 0x185#12 0#32) := by decide

theorem test_decode_misaligned :
    decodeTableWord 24 0x0F7F1 = some (.rdMisaligned1 0x7F1#12) ∧
    decodeTableWord 24 0x1F029 = some (.wrMisaligned1 0x029#12 0#32) ∧
    decodeTableWord 24 0x0F7F2 = some (.rdMisaligned2 0x7F2#12) ∧
    decodeTableWord 24 0x1F02A = some (.wrMisaligned2 0x02A#12 0#32) ∧
    decodeTableWord 24 0x0F7F3 = some (.rdMisaligned3 0x7F3#12) ∧
    decodeTableWord 24 0x1F02B = some (.wrMisaligned3 0x02B#12 0#32) := by decide

theorem test_decode_reads_1 :
    decodeTableWord 24 0x0F000 = some .rdId ∧
    decodeTableWord 24 0x0F004 = some .rdParams ∧
    decodeTableWord 24 0x0F008 = some .rdCmd ∧
    decodeTableWord 24 0x0F00C = some .rdStatus ∧
    decodeTableWord 24 0x0F010 = some .rdErrCause ∧
    decodeTableWord 24 0x0F018 = some .rdErrIndexLo ∧
    decodeTableWord 24 0x0F01C = some .rdErrIndexHi ∧
    decodeTableWord 24 0x0F020 = some .rdIrqStatus ∧
    decodeTableWord 24 0x0F024 = some .rdIrqEnable ∧
    decodeTableWord 24 0x0F028 = some .rdSampleRate ∧
    decodeTableWord 24 0x0F02C = some .rdDecimM ∧
    decodeTableWord 24 0x0F030 = some .rdDcAlphaLo ∧
    decodeTableWord 24 0x0F034 = some .rdDcAlphaHi ∧
    decodeTableWord 24 0x0F038 = some .rdMixFreqLo ∧
    decodeTableWord 24 0x0F03C = some .rdMixFreqHi ∧
    decodeTableWord 24 0x0F040 = some .rdFirNtaps := by decide

theorem test_decode_reads_2 :
    decodeTableWord 24 0x0F044 = some .rdTapAddr ∧
    decodeTableWord 24 0x0F048 = some .rdTapDataLo ∧
    decodeTableWord 24 0x0F04C = some .rdTapDataHi ∧
    decodeTableWord 24 0x0F050 = some .rdNcoIncLo ∧
    decodeTableWord 24 0x0F054 = some .rdNcoIncHi ∧
    decodeTableWord 24 0x0F058 = some .rdNcoPhaseLo ∧
    decodeTableWord 24 0x0F05C = some .rdNcoPhaseHi ∧
    decodeTableWord 24 0x0F060 = some .rdInCountLo ∧
    decodeTableWord 24 0x0F064 = some .rdInCountHi ∧
    decodeTableWord 24 0x0F068 = some .rdOutCountLo ∧
    decodeTableWord 24 0x0F06C = some .rdOutCountHi ∧
    decodeTableWord 24 0x0F070 = some .rdOutRate ∧
    decodeTableWord 24 0x0F078 = some .rdFirGainLo ∧
    decodeTableWord 24 0x0F07C = some .rdFirGainHi := by decide

theorem test_decode_writes :
    decodeTableWord 24 0x1F008 = some (.wrCmd 0#32) ∧
    decodeTableWord 24 0x1F020 = some (.wrIrqStatus 0#32) ∧
    decodeTableWord 24 0x1F024 = some (.wrIrqEnable 0#32) ∧
    decodeTableWord 24 0x1F028 = some (.wrSampleRate 0#32) ∧
    decodeTableWord 24 0x1F02C = some (.wrDecimM 0#32) ∧
    decodeTableWord 24 0x1F030 = some (.wrDcAlphaLo 0#32) ∧
    decodeTableWord 24 0x1F034 = some (.wrDcAlphaHi 0#32) ∧
    decodeTableWord 24 0x1F038 = some (.wrMixFreqLo 0#32) ∧
    decodeTableWord 24 0x1F03C = some (.wrMixFreqHi 0#32) ∧
    decodeTableWord 24 0x1F040 = some (.wrFirNtaps 0#32) ∧
    decodeTableWord 24 0x1F044 = some (.wrTapAddr 0#32) ∧
    decodeTableWord 24 0x1F048 = some (.wrTapDataLo 0#32) ∧
    decodeTableWord 24 0x1F04C = some (.wrTapDataHi 0#32) := by decide

theorem test_decode_read_only_1 :
    decodeTableWord 24 0x1F000 = some (.wrRoId 0#32) ∧
    decodeTableWord 24 0x1F004 = some (.wrRoParams 0#32) ∧
    decodeTableWord 24 0x1F00C = some (.wrRoStatus 0#32) ∧
    decodeTableWord 24 0x1F010 = some (.wrRoErrCause 0#32) ∧
    decodeTableWord 24 0x1F018 = some (.wrRoErrIndexLo 0#32) ∧
    decodeTableWord 24 0x1F01C = some (.wrRoErrIndexHi 0#32) ∧
    decodeTableWord 24 0x1F050 = some (.wrRoNcoIncLo 0#32) ∧
    decodeTableWord 24 0x1F054 = some (.wrRoNcoIncHi 0#32) ∧
    decodeTableWord 24 0x1F058 = some (.wrRoNcoPhaseLo 0#32) ∧
    decodeTableWord 24 0x1F05C = some (.wrRoNcoPhaseHi 0#32) ∧
    decodeTableWord 24 0x1F060 = some (.wrRoInCountLo 0#32) ∧
    decodeTableWord 24 0x1F064 = some (.wrRoInCountHi 0#32) ∧
    decodeTableWord 24 0x1F068 = some (.wrRoOutCountLo 0#32) ∧
    decodeTableWord 24 0x1F06C = some (.wrRoOutCountHi 0#32) ∧
    decodeTableWord 24 0x1F070 = some (.wrRoOutRate 0#32) ∧
    decodeTableWord 24 0x1F078 = some (.wrRoFirGainLo 0#32) := by decide

theorem test_decode_read_only_2 :
    decodeTableWord 24 0x1F07C = some (.wrRoFirGainHi 0#32) := by decide

theorem test_decode_unmapped :
    decodeTableWord 24 0x0F014 = some .rdUnmapped014 ∧
    decodeTableWord 24 0x1F014 = some (.wrUnmapped014 0#32) ∧
    decodeTableWord 24 0x0F074 = some .rdUnmapped074 ∧
    decodeTableWord 24 0x1F074 = some (.wrUnmapped074 0#32) := by decide

theorem test_decode_unmapped_high :
    decodeTableWord 24 0x0F0FC = some (.rdUnmappedHiB7 0x0FC#12) ∧
    decodeTableWord 24 0x1F0FC = some (.wrUnmappedHiB7 0x0FC#12 0#32) ∧
    decodeTableWord 24 0x0F17C = some (.rdUnmappedHiB8 0x17C#12) ∧
    decodeTableWord 24 0x1F1FC = some (.wrUnmappedHiB8 0x1FC#12 0#32) ∧
    decodeTableWord 24 0x0F27C = some (.rdUnmappedHiB9 0x27C#12) ∧
    decodeTableWord 24 0x1F3FC = some (.wrUnmappedHiB9 0x3FC#12 0#32) ∧
    decodeTableWord 24 0x0F47C = some (.rdUnmappedHiB10 0x47C#12) ∧
    decodeTableWord 24 0x1F7FC = some (.wrUnmappedHiB10 0x7FC#12 0#32) ∧
    decodeTableWord 24 0x0F87C = some (.rdUnmappedHiB11 0x87C#12) ∧
    decodeTableWord 24 0x1FFFC = some (.wrUnmappedHiB11 0xFFC#12 0#32) := by decide

theorem test_decode_commands :
    decodeTableWord 32 0x00000000 = some .nop ∧
    decodeTableWord 32 0x00000001 = some .start ∧
    decodeTableWord 32 0x00000002 = some .eos ∧
    decodeTableWord 32 0x00000003 = some .abort ∧
    decodeTableWord 32 0x00000004 = some (.stageReset 0b00000#5) ∧
    decodeTableWord 32 0x00001F04 = some (.stageReset 0b11111#5) ∧
    decodeTableWord 32 0x00000204 = some (.stageReset 0b00010#5) ∧
    decodeTableWord 32 0x00000005 = some (.cmdIllegal 0x00000005#32) ∧
    decodeTableWord 32 0x00000101 = some (.cmdIllegal 0x00000101#32) ∧
    decodeTableWord 32 0x80000000 = some (.cmdIllegal 0x80000000#32) := by decide

/-- I is DATA[127:64] and Q is DATA[63:0] (R61, R80): P1's second beat. -/
theorem test_decode_beats :
    decodeTableWord 128 0x3FE00000000000003FF0000000000000 =
      some (.inBeat 0x3FE0000000000000#64 0x3FF0000000000000#64) ∧
    decodeTableWord 64 0 = some .outBeat ∧ decodeTableWord 0 0 = some .outBeat := by decide

/-- Bits that are no transaction are rejected by name. -/
theorem test_decode_rejects :
    txnOfTableWord 24 0x20000 = .error (.keyTooWide 0x20000) ∧
    txnOfTableWord 24 0x03028 = .error (.readKeyStrobes 0x03028) ∧
    txnOfTableWord 12 0 = .error (.noFormat 12) := by decide

/-- The write data stands beside the key (R80), and partial strobes come before every other fault (V-BUS-20). -/
theorem test_decode_bus :
    decode (.bus true 0x028#12 0b1111#4 250000#32) = .wrSampleRate 250000#32 ∧
    decode (.bus true 0x014#12 0b0001#4 7#32) = .wrBadstrb0001 0x014#12 7#32 ∧
    decode (.bus false 0x028#12 0b0011#4 7#32) = .rdSampleRate := by decide

/-! Effects, from the examples of the rules and the vectors of 95_test_vectors.md -/

/-- The state of a `next` outcome satisfies `p`. -/
def answers (o : Host.Outcome State Fault Refusal) (p : State → Bool) : Bool :=
  match o with
  | .next t => p t
  | _ => false

/-- Ready for START as in the example of R152: rate 4, α 0.5, one tap of 1.0. -/
def configured : State :=
  { State.reset with
    sampleRate := 4#32, dcAlpha := 0x3FE0000000000000#64, firNtaps := 1#32, taps := tapWrite [] 0 one64 }

/-- In a run of that configuration, before its first beat. -/
def running : State :=
  { configured with runState := .run, wAlpha := 0x3FE0000000000000#64, wNtaps := 1#32 }

/-- In that run, after a first kept sample (1.0, 0.0). -/
def running1 : State :=
  { running with
    inCount := 1#64, dcPx := ⟨one64, zero64⟩, dcPy := ⟨one64, zero64⟩, demPrev := ⟨one64, zero64⟩,
    demHasPrev := true, demKept := 1 }

/-- Example of R152: START at MIX_FREQ 1.0. -/
theorem test_start_runs :
    answers (exec .start { configured with mixFreq := one64 }) (fun t =>
      t.runState == .run && t.wInc == 0xBFF921FB54442D18#64 && t.outRate == 4#32 && t.firGain == one64) = true := by
  decide +kernel

/-- Example of R200: f = 3.0 at rate 4 gives the alias increment +HALF_PI64. -/
theorem test_increment_alias : incReduced 0x4008000000000000#64 4#32 = halfPi64 := by decide +kernel

/-- R24, R36, R103, R117, R120: a build with a tap RAM of 4 entries and a queue of 2. -/
theorem test_small_build :
    answers (exec .rdParams (State.resetOf ⟨4, 2⟩)) (fun t => t.result == .read 0x00020004#32 .okay) = true ∧
    answers (exec (.wrTapAddr 4#32) (State.resetOf ⟨4, 2⟩)) (fun t => t.result == .written .slverr) = true ∧
    answers (exec (.wrTapDataHi 1#32) { State.resetOf ⟨4, 2⟩ with tapAddr := 3#16 }) (fun t => t.tapAddr == 0#16) = true := by
  decide

/-- V-BUS-1 to V-BUS-4 through the whole step, from reset. -/
theorem test_step_reads_params :
    answers (step (State.reset.withFetchWord 24 0x0F004)) (fun t => t.result == .read 0x00100400#32 .okay) = true := by
  decide

/-- P1 row 19: STATUS with four values in Q. -/
theorem test_status_in_run :
    statusWord { running with queue := [halfPi64, halfPi64, halfPi64, halfPi64], irqEnable := 1#2 } = 0x0000040D#32 := by
  decide

/-- V-BUS-26: enabling a pending bit raises irq, STATUS bit 5. -/
theorem test_irq_level :
    answers (exec (.wrIrqEnable 2#32) { State.reset with irqStatus := 2#2 }) (fun t =>
      irqLevel t && (statusWord t).getLsbD 5) = true := by decide

/-- V-BUS-24, V-BUS-25. -/
theorem test_irq_write_one_clears :
    answers (exec (.wrIrqStatus 2#32) { State.reset with irqStatus := 3#2 }) (fun t => t.irqStatus == 1#2) = true ∧
    answers (exec (.wrIrqStatus 0xFFFFFFFC#32) { State.reset with irqStatus := 3#2 }) (fun t =>
      t.irqStatus == 3#2) = true := by decide

/-- Example of R120, and the wrap from the last entry. -/
theorem test_tap_write :
    answers (exec (.wrTapDataHi 0x3FE00000#32) State.reset) (fun t =>
      tapRead t.taps 0 == 0x3FE0000000000000#64 && t.tapAddr == 1#16) = true ∧
    answers (exec (.wrTapDataHi 0x3FE00000#32) { State.reset with tapAddr := 1023#16 }) (fun t =>
      t.tapAddr == 0#16 && memRead t.taps 8191 == some 0x3F#8) = true := by decide

/-- Examples of R119 and R121. -/
theorem test_tap_read :
    answers (exec .rdTapDataLo configured) (fun t => t.result == .read 0#32 .okay && t.tapRhi == 0x3FF00000#32) = true ∧
    answers (exec .rdTapDataHi { configured with tapRhi := 0x3FF00000#32 }) (fun t =>
      t.result == .read 0x3FF00000#32 .okay && t.tapAddr == 1#16) = true := by decide

/-- Example of R122: a phase of −PI64. -/
theorem test_live_pair :
    answers (exec .rdNcoPhaseLo { State.reset with phi := 0xC00921FB54442D18#64 }) (fun t =>
      t.result == .read 0x54442D18#32 .okay && t.snap == 0xC00921FB#32) = true := by decide

/-- Examples of R301 and R107. -/
theorem test_err_cause_word :
    errCauseWord ⟨4#4, 0#4, 3#3⟩ = 0x00030004#32 ∧ errCauseWord ⟨1#4, 1#4, 0#3⟩ = 0x00000101#32 ∧
      errCauseWord ⟨3#4, 0#4, 5#3⟩ = 0x00050003#32 := by decide

/-- P5 row 6: EOS after two beats of which one was kept. -/
theorem test_eos_insufficient :
    answers (exec .eos { running1 with inCount := 2#64 }) (fun t =>
      t.runState == .fault && t.errCause == ⟨3#4, 0#4, 5#3⟩ && t.errIndex == 2#64 && t.irqStatus == 2#2 &&
        t.result == .written .okay) = true := by decide

/-- Example of R162: the word 0x00000204 clears PHI alone. -/
theorem test_stage_reset_nco :
    answers (exec (.wrCmd 0x00000204#32) { running1 with phi := pi64 }) (fun t =>
      t.phi == zero64 && t.dcPx == ⟨one64, zero64⟩ && t.demKept == 1) = true := by decide

/-- Example of R190. -/
theorem test_dcb :
    dcbStep 0x3FE0000000000000#64 ⟨0x4010000000000000#64, 0xC000000000000000#64⟩
      ⟨0x4010000000000000#64, 0xC000000000000000#64⟩ ⟨0x4010000000000000#64, 0xC000000000000000#64⟩ =
      ⟨0x4000000000000000#64, 0xBFF0000000000000#64⟩ := by decide +kernel

/-- Example of R201. -/
theorem test_mixer :
    ncoMix zero64 ⟨0x4008000000000000#64, 0x4010000000000000#64⟩ = ⟨0x4008000000000000#64, 0x4010000000000000#64⟩ := by
  decide +kernel

/-- Example of R202. -/
theorem test_wrap : ncoNext (neg64 pi64) (neg64 halfPi64) = halfPi64 := by decide +kernel

/-- Example of R220: two taps of 0.5. -/
theorem test_fir :
    firOut (fun _ => 0x3FE0000000000000#64) 2 [⟨0x4000000000000000#64, zero64⟩]
      ⟨0x4010000000000000#64, 0x4000000000000000#64⟩ = ⟨0x4008000000000000#64, one64⟩ := by decide +kernel

/-- Example of R252. -/
theorem test_demodulator :
    (demStep ⟨one64, zero64⟩ true 1 ⟨zero64, 0x4000000000000000#64⟩).map DemNext.out = some (some halfPi64) := by
  decide +kernel

/-- P1 row 15: the second beat enqueues HALF_PI64. -/
theorem test_beat_outputs :
    answers (exec (.inBeat 0x3FE0000000000000#64 one64) running1) (fun t =>
      t.queue == [halfPi64] && t.outCount == 1#64 && t.inCount == 2#64 && t.demKept == 2) = true := by decide +kernel

/-- P3 row 20: +inf at beat 1. -/
theorem test_beat_faults :
    answers (exec (.inBeat 0x7FF0000000000000#64 zero64) running1) (fun t =>
      t.runState == .fault && t.errCause == ⟨4#4, 0#4, 1#3⟩ && t.errIndex == 1#64 && t.inCount == 2#64 &&
        t.dcPx == ⟨one64, zero64⟩) = true := by decide +kernel

/-- Example of R176, and a beat that waits. -/
theorem test_out_beat :
    answers (exec .outBeat { running with queue := [zero64] }) (fun t =>
      t.queue == [] && t.result == .delivered zero64) = true ∧
    answers (exec .outBeat running) (fun t => t.offered == [.txn .output]) = true := by decide

/-- R67: a bus access overtakes a beat that waits. -/
theorem test_step_order :
    answers (step { State.reset with offered := [.txn (.input 0#128), .txn (.bus false 0x000#12 0b1111#4 0#32)] })
      (fun t => t.offered == [.txn (.input 0#128)] && t.result == .read 0x464D4431#32 .okay) = true := by decide

/-! Witnesses: for each statement with hypotheses, a case that meets them, one for each clause -/

theorem witness_DecodeEncodeAgree :
    [Instr.rdMisaligned3 0xFFF#12, .wrUnmappedHiB7 0x080#12 1#32, .cmdIllegal 0x00000005#32, .inBeat one64 zero64,
      .stageReset 0b11111#5].all (fun i => i.wellFormed) = true := by decide

theorem witness_DecodeFollowsTheTable :
    Txn.key (.bus true 0x028#12 0b0011#4 4#32) = some 0x13028#17 ∧
      Txn.key (.bus false 0x028#12 0b0011#4 4#32) = some 0x0F028#17 := by decide

theorem witness_IllegalCommandWordRefused :
    [0x00000005#32, 0x000000FF#32, 0x00002000#32, 0x80000004#32, 0x00000100#32, 0x00001F03#32].all
      (fun w => decide (decodeCommand w = .illegal w)) = true ∧
    [0x00000000#32, 0x00000003#32, 0x00000004#32, 0x00001F04#32].all
      (fun w => decide (decodeCommand w ≠ .illegal w)) = true := by decide

theorem witness_StepRunsDecodedTransaction :
    canPerform { running with offered := [.txn (.input 0#128)] } (.txn (.input 0#128)) = true ∧
      canPerform State.reset (.txn (.command 0#32)) = true ∧ decodeTableWord 24 0x0F000 = some .rdId := by decide

theorem witness_StepTakesFirstReadyEvent :
    canPerform State.reset (.txn (.input 0#128)) = false ∧ canPerform State.reset (.txn .output) = false ∧
      canPerform State.reset .reset = true ∧ canPerform State.reset (.txn (.command 0#32)) = true := by decide

theorem witness_PartialStrobeRefused : (0b0000#4 : BitVec 4) ≠ 0b1111#4 ∧ (0b1110#4 : BitVec 4) ≠ 0b1111#4 := by decide

theorem witness_MisalignedRefused :
    (0x001#12).extractLsb' 0 2 ≠ 0b00#2 ∧ (0x002#12).extractLsb' 0 2 ≠ 0b00#2 ∧
      (0xFFF#12).extractLsb' 0 2 ≠ 0b00#2 := by decide

theorem witness_UnmappedRefused :
    [0x014#12, 0x074#12, 0x080#12, 0xFFC#12].all
      (fun a => decide (a.toNat % 4 = 0 ∧ (a = 0x014#12 ∨ a = 0x074#12 ∨ 0x080 ≤ a.toNat))) = true := by decide

theorem witness_ReadOnlyWriteRefused :
    (0x000#12).toNat ∈ readOnlyOffsets ∧ (0x058#12).toNat ∈ readOnlyOffsets ∧
      (0x07C#12).toNat ∈ readOnlyOffsets := by decide

theorem witness_SlverrExactly_strobe : refusedAccess true 0x028#12 0b0011#4 4#32 State.reset := .inl (by decide)

theorem witness_SlverrExactly_misaligned : refusedAccess false 0x002#12 0b1111#4 0#32 State.reset :=
  .inr (.inl (by decide))

theorem witness_SlverrExactly_unmapped : refusedAccess false 0x014#12 0b1111#4 0#32 State.reset :=
  .inr (.inr (.inl (by decide)))

theorem witness_SlverrExactly_readOnly : refusedAccess true 0x000#12 0b1111#4 0#32 State.reset :=
  .inr (.inr (.inr (.inl (by decide))))

theorem witness_SlverrExactly_command :
    refusedAccess true 0x008#12 0b1111#4 5#32 State.reset ∧ refusedAccess true 0x008#12 0b1111#4 1#32 running ∧
      refusedAccess true 0x008#12 0b1111#4 2#32 State.reset :=
  ⟨.inr (.inr (.inr (.inr (.inl (by decide))))), .inr (.inr (.inr (.inr (.inl (by decide))))),
    .inr (.inr (.inr (.inr (.inl (by decide)))))⟩

theorem witness_SlverrExactly_taps :
    refusedAccess true 0x044#12 0b1111#4 1024#32 State.reset ∧ refusedAccess true 0x04C#12 0b1111#4 0#32 running :=
  ⟨.inr (.inr (.inr (.inr (.inr (.inl (by decide)))))), .inr (.inr (.inr (.inr (.inr (.inr (by decide))))))⟩

theorem witness_SlverrExactly_performed :
    ¬refusedAccess true 0x044#12 0b1111#4 1023#32 State.reset ∧
      ¬refusedAccess true 0x008#12 0b1111#4 1#32 State.reset ∧ ¬refusedAccess false 0x07C#12 0b0000#4 0#32 running := by
  refine ⟨fun h => ?_, fun h => ?_, fun h => ?_⟩ <;> rcases h with h | h | h | h | h | h | h <;> revert h <;> decide

theorem witness_SnapOnlyFromLoReads :
    (∃ t, performEvent .reset { State.reset with snap := 7#32 } = .next t ∧ t.snap ≠ 7#32) ∧
    (∃ t, performEvent (.txn (.bus false 0x058#12 0#4 0#32)) { State.reset with phi := pi64 } = .next t ∧
      t.snap ≠ 0#32) ∧
    (∃ t, performEvent (.txn (.bus false 0x060#12 0#4 0#32)) { State.reset with inCount := 0x100000000#64 } = .next t ∧
      t.snap ≠ 0#32) ∧
    ∃ t, performEvent (.txn (.bus false 0x068#12 0#4 0#32)) { State.reset with outCount := 0x100000000#64 } = .next t ∧
      t.snap ≠ 0#32 :=
  ⟨⟨_, rfl, by decide⟩, ⟨_, rfl, by decide⟩, ⟨_, rfl, by decide⟩, ⟨_, rfl, by decide⟩⟩

theorem witness_OtherReadsAreIdempotent :
    decode (.bus false 0x00C#12 0#4 0#32) ∉ sideEffectReads ∧ decode (.bus false 0x014#12 0#4 0#32) ∉ sideEffectReads := by
  decide

theorem witness_TapAddressAndLowWrites :
    (1023#32).extractLsb' 0 16 = 1023#16 ∧ (0x00010000#32).extractLsb' 0 16 = 0#16 ∧ running.runState = .run ∧
      State.reset.runState ≠ .run := by decide

theorem witness_TapDataReads :
    State.reset.tapAddr.toNat < State.reset.build.tapDepth ∧ (1023#16).toNat < State.reset.build.tapDepth := by decide

theorem witness_TapDataHiWrite :
    { State.reset with tapAddr := 1023#16 }.tapAddr.toNat < State.reset.build.tapDepth ∧ State.reset.runState ≠ .run ∧
      running.tapAddr.toNat < running.build.tapDepth ∧ running.runState = .run := by decide

theorem witness_TapsWrittenOnlyByTapDataHi :
    ∃ t, performEvent (.txn (.bus true 0x04C#12 0b1111#4 5#32)) State.reset = .next t ∧ t.taps ≠ State.reset.taps :=
  ⟨_, rfl, by decide⟩

theorem witness_CommandAcceptance :
    (∀ w, Command.start ≠ .illegal w) ∧ (∀ w, Command.eos ≠ .illegal w) ∧ (∀ w, Command.nop ≠ .illegal w) ∧
      running.runState = .run ∧ State.reset.runState ≠ .run :=
  ⟨nofun, nofun, nofun, rfl, nofun⟩

theorem witness_StartFirstFailedCheck_1 :
    State.reset.runState ≠ .run ∧ checkFails State.reset 1 ∧ (∀ e, e < 1 → ¬checkFails State.reset e) ∧
      checkIndex State.reset 1 0 :=
  ⟨by decide, rfl, fun e he => by interval_cases e; exact id, rfl⟩

/-- A state whose first failing check is the one asked for. -/
def failing : Nat → State
  | 2 => { configured with decimM := 0#32 }
  | 3 => { configured with firNtaps := 1025#32 }
  | 4 => { configured with dcAlpha := one64 }
  | 5 => { configured with mixFreq := 0x7FF0000000000000#64 }
  | 6 => { configured with sampleRate := 1#32, mixFreq := 0x7FEFFFFFFFFFFFFF#64 }
  | _ => { configured with firNtaps := 2#32, taps := tapWrite (tapWrite [] 0 one64) 1 0x7FF8000000000000#64 }

theorem witness_StartFirstFailedCheck_2 :
    (failing 2).runState ≠ .run ∧ checkFails (failing 2) 2 ∧ (∀ e, e < 2 → ¬checkFails (failing 2) e) ∧
      checkIndex (failing 2) 2 0 :=
  ⟨by decide, rfl, fun e he => by interval_cases e <;> simp only [checkFails] <;> decide, rfl⟩

theorem witness_StartFirstFailedCheck_3 :
    (failing 3).runState ≠ .run ∧ checkFails (failing 3) 3 ∧ (∀ e, e < 3 → ¬checkFails (failing 3) e) ∧
      checkIndex (failing 3) 3 0 :=
  ⟨by decide, .inr (by decide), fun e he => by interval_cases e <;> simp only [checkFails] <;> decide, rfl⟩

theorem witness_StartFirstFailedCheck_4 :
    (failing 4).runState ≠ .run ∧ checkFails (failing 4) 4 ∧ (∀ e, e < 4 → ¬checkFails (failing 4) e) ∧
      checkIndex (failing 4) 4 0 :=
  ⟨by decide, by simp only [checkFails]; decide +kernel,
    fun e he => by interval_cases e <;> simp only [checkFails] <;> decide +kernel, rfl⟩

theorem witness_StartFirstFailedCheck_5 :
    (failing 5).runState ≠ .run ∧ checkFails (failing 5) 5 ∧ (∀ e, e < 5 → ¬checkFails (failing 5) e) ∧
      checkIndex (failing 5) 5 0 :=
  ⟨by decide, by simp only [checkFails]; decide +kernel,
    fun e he => by interval_cases e <;> simp only [checkFails] <;> decide +kernel, rfl⟩

theorem witness_StartFirstFailedCheck_6 :
    (failing 6).runState ≠ .run ∧ checkFails (failing 6) 6 ∧ (∀ e, e < 6 → ¬checkFails (failing 6) e) ∧
      checkIndex (failing 6) 6 0 :=
  ⟨by decide, by simp only [checkFails]; decide +kernel,
    fun e he => by interval_cases e <;> simp only [checkFails] <;> decide +kernel, rfl⟩

theorem witness_StartFirstFailedCheck_7 :
    (failing 7).runState ≠ .run ∧ checkFails (failing 7) 7 ∧ (∀ e, e < 7 → ¬checkFails (failing 7) e) ∧
      checkIndex (failing 7) 7 1 :=
  ⟨by decide, ⟨1, by decide +kernel⟩,
    fun e he => by interval_cases e <;> simp only [checkFails] <;> decide +kernel,
    by rw [checkIndex, if_pos rfl]; decide +kernel⟩

theorem witness_StartBeginsRun : configured.runState ≠ .run ∧ ∀ d, ¬checkFails configured d := by
  refine ⟨by decide, fun d => ?_⟩
  match d with
  | 0 => exact id
  | 1 | 2 | 3 | 4 | 5 | 6 => simp only [checkFails]; decide +kernel
  | 7 =>
    rintro ⟨k, hk, hf⟩
    have hk : k < 1 := hk
    interval_cases k
    revert hf
    decide +kernel
  | _ + 8 => exact id

theorem witness_EosEndsRun :
    State.reset.runState ≠ .run ∧ (running1.runState = .run ∧ running1.demKept < 2) ∧
      ({ running1 with demKept := 2 }.runState = .run ∧ 2 ≤ { running1 with demKept := 2 }.demKept) := by decide

theorem witness_InBeatProcesses :
    running.runState = .run ∧ { running with queue := List.replicate 15 zero64 }.queue.length < running.build.outFifoDepth ∧
      running.wNtaps.toNat ≤ running.build.tapDepth ∧ (1024#32).toNat ≤ running.build.tapDepth := by decide

/-- The values on the way of an input beat in a state are all finite. -/
def beatFinite (s : State) (i q : F64) : Bool :=
  let y := dcbStep s.wAlpha s.dcPx s.dcPy ⟨i, q⟩
  let m := ncoMix s.phi y
  let f := firOut (tapRead s.taps) s.wNtaps.toNat s.hist m
  isFiniteC y && isFiniteC m && isFiniteC f && isFiniteC (demProduct f s.demPrev)

theorem witness_InBeatCompletes :
    running.runState = .run ∧ running.queue.length < running.build.outFifoDepth ∧ running.wNtaps.toNat ≤ running.build.tapDepth ∧
      beatFinite running one64 zero64 = true ∧ beatFinite running1 one64 zero64 = true ∧
      beatFinite { running1 with decCnt := 1#32, wM := 2#32 } one64 zero64 = true := by decide +kernel

theorem witness_InBeatWaits :
    ¬(State.reset.runState = .run ∧ State.reset.queue.length < State.reset.build.outFifoDepth) ∧
      ¬({ running with queue := List.replicate 16 zero64 }.runState = .run ∧
        { running with queue := List.replicate 16 zero64 }.queue.length < running.build.outFifoDepth) := by decide

theorem witness_NonFiniteInputFaultsAtDcb :
    running.runState = .run ∧ running.queue.length < running.build.outFifoDepth ∧ running.wNtaps.toNat ≤ running.build.tapDepth ∧
      isFinite64 0x7FF0000000000000#64 = false ∧ isFinite64 0xFFF8000000000001#64 = false := by decide

theorem witness_OutBeatDelivers :
    { running with queue := [one64, zero64] }.queue = one64 :: [zero64] ∧ running.queue = [] := by decide

theorem witness_DcbFirstSample :
    lt64 zero64 0x3FE0000000000000#64 = true ∧ lt64 0x3FE0000000000000#64 one64 = true ∧
      isFiniteC ⟨0x8000000000000000#64, one64⟩ = true := by decide

theorem witness_MixerAtZeroPhase :
    isZero64 zero64 = true ∧ isZero64 (neg64 zero64) = true ∧ isFiniteC ⟨one64, zero64⟩ = true ∧
      isFiniteC ⟨zero64, one64⟩ = true ∧ isZero64 one64 = false := by decide

theorem witness_DemAtan2Properties :
    lt64 zero64 one64 = true ∧ isZero64 (neg64 zero64) = true ∧ lt64 (neg64 one64) zero64 = true ∧
      isZero64 one64 = false := by decide

theorem witness_WrapIsExactAndInRange :
    inPiRange pi64 = true ∧ inPiRange (neg64 pi64) = true ∧ inPiRange halfPi64 = true ∧
      lt64 pi64 (add64 pi64 halfPi64) = true ∧ lt64 (add64 (neg64 pi64) (neg64 halfPi64)) (neg64 pi64) = true := by
  decide +kernel

theorem witness_WorkingIncrement :
    isFinite64 one64 = true ∧ (4#32 : U32) ≠ 0#32 ∧ isFinite64 (incRaw one64 4#32) = true ∧
      inPiRange (incRaw one64 4#32) = true ∧ isFinite64 (incRaw 0x4008000000000000#64 4#32) = true ∧
      inPiRange (incRaw 0x4008000000000000#64 4#32) = false := by decide +kernel

theorem witness_FirSumAndHistory :
    (2 : Nat) ≤ 3 ∧ ∃ j : Nat, 1 ≤ j ∧ j ≤ 3 - 2 ∧ ∃ l : Nat, 3 - 1 ≤ l := ⟨by decide, 1, by decide, by decide, 2, by decide⟩

theorem witness_DecimationSelector :
    (0#32).toNat < (1#32).toNat ∧ (0xFFFFFFFE#32).toNat < (0xFFFFFFFF#32).toNat ∧ (1#32).toNat < (3#32).toNat := by decide

theorem witness_AnglePrincipalValue :
    isFiniteC czero = true ∧ isFiniteC ⟨neg64 one64, neg64 zero64⟩ = true ∧ isFiniteC ⟨one64, one64⟩ = true := by decide

theorem witness_DemodulatorRepeatedSample :
    isFiniteC ⟨one64, zero64⟩ = true ∧ ∃ d, demStep ⟨one64, zero64⟩ true 1 ⟨one64, zero64⟩ = some d :=
  ⟨by decide, ⟨some zero64, ⟨one64, zero64⟩, true, 2⟩, by decide +kernel⟩

theorem witness_ArithmeticRoundsToNearestEven :
    isFinite64 one64 = true ∧ isFinite64 0x3CA0000000000000#64 = true ∧ isZero64 0x3CA0000000000000#64 = false ∧
      isFinite64 (add64 one64 0x3CA0000000000000#64) = true ∧ isFinite64 (sub64 one64 0x3CA0000000000000#64) = true ∧
      isFinite64 (mul64 one64 0x3CA0000000000000#64) = true ∧ isFinite64 (div64 one64 0x3CA0000000000000#64) = true ∧
      isFinite64 0x7FEFFFFFFFFFFFFF#64 = true ∧
      isFinite64 (mul64 0x7FEFFFFFFFFFFFFF#64 0xC000000000000000#64) = false ∧
      isFinite64 (div64 0x7FEFFFFFFFFFFFFF#64 0x3CA0000000000000#64) = false := by decide +kernel

theorem witness_RemainderIsExact :
    isFinite64 0x4008000000000000#64 = true ∧ isFinite64 0x4000000000000000#64 = true ∧
      isZero64 0x4000000000000000#64 = false := by decide

theorem witness_RunStateTransitions :
    (∃ t, performEvent .reset running = .next t) ∧ (∃ t, performEvent (.txn (.command 1#32)) State.reset = .next t) ∧
      (∃ t, performEvent (.txn (.command 2#32)) running1 = .next t) ∧
      (∃ t, performEvent (.txn (.command 3#32)) running1 = .next t) ∧
      ∃ t, performEvent (.txn (.input 0#128)) State.reset = .next t :=
  ⟨⟨_, rfl⟩, ⟨_, rfl⟩, ⟨_, rfl⟩, ⟨_, rfl⟩, ⟨_, rfl⟩⟩

theorem witness_FaultEntry :
    ∃ t, performEvent (.txn (.command 2#32)) running1 = .next t ∧ t.runState = .fault ∧ running1.runState ≠ .fault :=
  ⟨_, rfl, by decide, by decide⟩

theorem witness_InterruptBitsSticky_set :
    (∃ t, performEvent (.txn (.command 2#32)) { running1 with demKept := 2 } = .next t ∧
      running1.irqStatus.getLsbD 0 = false ∧ t.irqStatus.getLsbD 0 = true) ∧
    ∃ t, performEvent (.txn (.command 2#32)) running1 = .next t ∧ running1.irqStatus.getLsbD 1 = false ∧
      t.irqStatus.getLsbD 1 = true :=
  ⟨⟨_, rfl, by decide, by decide⟩, ⟨_, rfl, by decide, by decide⟩⟩

theorem witness_InterruptBitsSticky_clear :
    (∃ t, performEvent .reset { running1 with irqStatus := 3#2 } = .next t ∧ t.irqStatus.getLsbD 0 = false) ∧
    ∃ t, performEvent (.txn (.bus true 0x020#12 0b1111#4 2#32)) { running1 with irqStatus := 3#2 } = .next t ∧
      t.irqStatus.getLsbD 1 = false :=
  ⟨⟨_, rfl, by decide⟩, ⟨_, rfl, by decide⟩⟩

theorem witness_WorkingConfigurationLatched :
    (∃ t, performEvent .reset running = .next t) ∧ ∃ t, performEvent (.txn (.command 0#32)) running = .next t :=
  ⟨⟨_, rfl⟩, ⟨_, rfl⟩⟩

theorem witness_BeatIgnoresConfiguration : ∃ t, exec (.inBeat one64 zero64) running = .next t := ⟨_, rfl⟩

theorem witness_ReadsBetweenBeatsDoNotMatter :
    ∃ t u, exec (decode (.bus false 0x060#12 0#4 0#32)) running = .next t ∧ exec (.inBeat one64 zero64) t = .next u :=
  ⟨_, _, rfl, rfl⟩

/-- A NOP offered to the block right after reset. -/
def nopOffered : State := { State.reset with offered := [.txn (.command 0#32)] }

theorem witness_StepKeepsInv : Inv nopOffered ∧ ∃ t, step nopOffered = .next t :=
  ⟨⟨by decide, by decide, by decide, by decide, fun v hv => (by cases hv), fun _ => rfl, by decide, nofun, nofun, by decide,
    by decide, rfl, by decide, fun z hz => (by cases hz), by decide, by decide, nofun, by decide, rfl,
    fun _ => ⟨rfl, rfl⟩, nofun⟩, _, rfl⟩

theorem witness_StepKeepsPhaseInRange : PhaseInRange nopOffered ∧ ∃ t, step nopOffered = .next t :=
  ⟨⟨by decide, by decide⟩, _, rfl⟩

theorem witness_StepKeepsCounts_beat :
    CountsAgree { running with offered := [.txn (.input 0#128)] } ∧
      { running with offered := [.txn (.input 0#128)] }.inCount.toNat + 1 < 2 ^ 64 ∧
      (∀ e rest, nextEvent { running with offered := [.txn (.input 0#128)] } = some (e, rest) →
        clearsDecOrDem e = false) ∧
      ∃ t, step { running with offered := [.txn (.input 0#128)] } = .next t :=
  ⟨⟨fun _ => by decide, nofun⟩, by decide, fun e rest h => (by cases h; decide), _, rfl⟩

/-- A STAGE_RESET of DCB, NCO and FIR, and one of DEM that waits for its turn behind it. -/
theorem witness_StepKeepsCounts_stageReset :
    CountsAgree { running1 with offered := [.txn (.command 0x704#32), .txn (.command 0x1004#32)], wM := 2#32, decCnt := 1#32 } ∧
      (∀ e rest,
        nextEvent { running1 with offered := [.txn (.command 0x704#32), .txn (.command 0x1004#32)] } = some (e, rest) →
        clearsDecOrDem e = false) ∧
      clearsDecOrDem (.txn (.command 0x1004#32)) = true ∧ clearsDecOrDem (.txn (.command 0x804#32)) = true :=
  ⟨⟨fun _ => by decide, nofun⟩, fun e rest h => (by cases h; decide), by decide, by decide⟩

theorem witness_StepKeepsCounts_done :
    CountsAgree { running1 with runState := .done, inCount := 3#64, outCount := 2#64 } := ⟨nofun, fun _ => by decide⟩

theorem witness_ResetIsSound :
    (Config.Build.mk 1 1).legal = true ∧ (Config.Build.mk 65535 255).legal = true ∧
      (Config.Build.mk 0 1).legal = false ∧ (Config.Build.mk 65536 255).legal = false := by decide

end Sys2Proof.Tests
end

section
/-! PROOF. The model's own schedule: a first offered event that can be performed is the one a step performs (O6). -/

namespace Sys2Proof.Machine

theorem nextEvent_of_head {s : State} {e : Event} {rest : List Event} (ho : s.offered = e :: rest)
    (hp : canPerform s e = true) : nextEvent s = some (e, rest) := by
  have hfirst : firstReady s s.offered = some (e, rest) := by
    rw [ho]
    exact firstReady_append (pre := []) (by simp) hp
  simp [nextEvent, hfirst]

theorem step_of_nextEvent {s : State} {e : Event} {rest : List Event} (h : nextEvent s = some (e, rest)) :
    step s = performEvent e { s with offered := rest } := by
  simp [step, h]

/-- The one offered event is performed even when the block is not ready for it: it is a beat, and waits (R67). -/
theorem nextEvent_of_single {s : State} {e : Event} (ho : s.offered = [e]) : nextEvent s = some (e, []) := by
  by_cases hp : canPerform s e = true
  · exact nextEvent_of_head ho hp
  · have hnone : firstReady s [e] = none := firstReady_eq_none.2 (by simpa using hp)
    simp [nextEvent, hnone, ho]

/-- A table word that decodes is placed as the one transaction offered (log entry 3). -/
theorem withFetchWord_of_decodeTableWord {nbits w : Nat} {i : Instr} (h : decodeTableWord nbits w = some i)
    (s : State) : ∃ t, decode t = i ∧ s.withFetchWord nbits w = { s with offered := [.txn t] } := by
  unfold decodeTableWord at h
  unfold State.withFetchWord
  cases hw : txnOfTableWord nbits w with
  | error e => simp [hw] at h
  | ok t => exact ⟨t, by simpa [hw] using h, rfl⟩

/-- Settles O6: both clauses name the event the step turns to, and performing a transaction is `exec` of its
decoding. -/
theorem stepRunsDecodedTransaction : Obligations.StepRunsDecodedTransaction := by
  refine ⟨fun s t rest ho hp => step_of_nextEvent (nextEvent_of_head ho hp), fun s nbits w i h => ?_⟩
  obtain ⟨t, rfl, hplaced⟩ := withFetchWord_of_decodeTableWord h s
  rw [hplaced]
  have hnext : nextEvent { s with offered := [.txn t] } = some (.txn t, []) := nextEvent_of_single rfl
  exact step_of_nextEvent hnext

end Sys2Proof.Machine
end

section
/-! PROOF. Facts about the stages, the checks of START and the range [-PI64, PI64] that soundness rests on. -/

namespace Sys2Proof.Machine

theorem isFinite64_zero64 : isFinite64 zero64 = true := by decide

theorem isFiniteC_czero : isFiniteC czero = true := by decide

theorem nextTapAddr_lt {b : Config.Build} (hb : b.legal = true) (x : BitVec 16) :
    (nextTapAddr b.tapDepth x).toNat < b.tapDepth := by
  have := (Config.Build.legal_iff b).1 hb
  rw [nextTapAddr_toNat hb]
  exact Nat.mod_lt _ (by omega)

theorem order64_eq (x : F64) : order64 x = if sign64 x then -(lowBits x : Int) else (lowBits x : Int) := rfl

/-- A value strictly between ZERO and ONE is finite (R153 check 4). -/
theorem isFinite64_of_between {a : F64} (h : (lt64 zero64 a && lt64 a one64) = true) : isFinite64 a = true := by
  simp only [lt64, Bool.and_eq_true, decide_eq_true_eq] at h
  obtain ⟨⟨-, hpos⟩, -, hlt⟩ := h
  have hzero : order64 zero64 = 0 := by decide
  have hone : order64 one64 = 1023 * 2 ^ 52 := by decide
  rw [hzero, order64_eq] at hpos
  rw [hone, order64_eq] at hlt
  rw [isFinite64_iff]
  by_cases hs : sign64 a = true
  · rw [if_pos hs] at hpos
    omega
  · rw [if_neg hs] at hlt
    omega

theorem toNat_pos_of_ne_zero {x : U32} (h : x ≠ 0#32) : 0 < x.toNat :=
  Nat.pos_of_ne_zero fun h0 => h (BitVec.eq_of_toNat_eq h0)

/-- A DC blocker output is finite only for a finite input (R175). -/
theorem isFinite64_of_dcbPart {alpha px py x : F64} (h : isFinite64 (dcbPart alpha px py x) = true) :
    isFinite64 x = true := by
  by_contra hx
  have hx : isFinite64 x = false := by simpa using hx
  have hsub : isFinite64 (sub64 x px) = false := add64_not_finite (.inl hx)
  have hout : isFinite64 (dcbPart alpha px py x) = false := add64_not_finite (.inl hsub)
  simp [hout] at h

theorem isFiniteC_iff (z : Cplx) : isFiniteC z = true ↔ isFinite64 z.re = true ∧ isFinite64 z.im = true := by
  simp [isFiniteC]

theorem isFiniteC_of_dcbStep {alpha : F64} {px py x : Cplx} (h : isFiniteC (dcbStep alpha px py x) = true) :
    isFiniteC x = true := by
  obtain ⟨hre, him⟩ := (isFiniteC_iff _).1 h
  exact (isFiniteC_iff x).2 ⟨isFinite64_of_dcbPart hre, isFinite64_of_dcbPart him⟩

theorem isNan64_neg64 (x : F64) : isNan64 (neg64 x) = isNan64 x := by
  simp [isNan64, expo64_eq, frac64_eq]

theorem order64_neg64 (x : F64) : order64 (neg64 x) = -order64 x := by
  rw [order64_eq, order64_eq, sign64_neg64, lowBits_neg64]
  cases sign64 x <;> simp

theorem le64_iff_order (a b : F64) :
    le64 a b = true ↔ isNan64 a = false ∧ isNan64 b = false ∧ order64 a ≤ order64 b := by
  simp [le64, and_assoc]

theorem inPiRange_iff (v : F64) :
    inPiRange v = true ↔ isNan64 v = false ∧ -order64 pi64 ≤ order64 v ∧ order64 v ≤ order64 pi64 := by
  have hpi : isNan64 pi64 = false := by decide
  simp only [inPiRange, Bool.and_eq_true, le64_iff_order, isNan64_neg64, order64_neg64, hpi]
  tauto

theorem inPiRange_neg64 {v : F64} (h : inPiRange v = true) : inPiRange (neg64 v) = true := by
  rw [inPiRange_iff] at h ⊢
  rw [isNan64_neg64, order64_neg64]
  obtain ⟨hn, hlo, hhi⟩ := h
  exact ⟨hn, by omega, by omega⟩

theorem inPiRange_of_isZero64 {v : F64} (h : isZero64 v = true) : inPiRange v = true := by
  have hl := (isZero64_iff v).1 h
  have hv : order64 v = 0 := by simp [order64_eq, hl]
  have hpi : 0 ≤ order64 pi64 := by decide
  rw [inPiRange_iff, hv]
  exact ⟨by simp [isNan64, expo64_eq, hl], by omega, hpi⟩

theorem inPiRange_within64 (v : F64) : inPiRange (within64 pi64 v) = true := by
  simpa [inPiRange] using within64_range (b := pi64) (v := v) (by decide) (by decide)

/-- Property 1 of DEM_ATAN2 (R253). -/
theorem inPiRange_demAtan2 (y x : F64) : inPiRange (demAtan2 y x) = true := by
  have hhalf : inPiRange halfPi64 = true := by decide
  unfold demAtan2
  split
  · rename_i h
    exact inPiRange_of_isZero64 (Bool.and_eq_true_iff.1 h).1
  · split
    · split
      · exact inPiRange_neg64 hhalf
      · exact hhalf
    · split
      · exact inPiRange_neg64 (inPiRange_within64 _)
      · exact inPiRange_within64 _

/-- Every value the demodulator gives (R251). -/
theorem inPiRange_angle (p : Cplx) : inPiRange (angle p) = true := by
  unfold angle
  split
  · decide
  · split
    · decide
    · exact inPiRange_demAtan2 _ _

end Sys2Proof.Machine
end

section
/-! PROOF. Soundness: every operation of the block keeps `Inv` (O57), and reset meets it (O56). -/

namespace Sys2Proof.Safety

open Sys2Proof.Machine

/-! Reset -/

/-- Over any well-formed tap RAM, since a later reset keeps the RAM (R330). -/
theorem inv_resetOf_withTaps {b : Config.Build} {m : Memory} (hb : b.legal = true)
    (hm : m.wf b.tapDepth = true) (offered : List Event) :
    Inv { State.resetOf b with taps := m, offered := offered } where
  buildLegal := hb
  tapsWf := hm
  tapAddrInRange := ((Config.Build.legal_iff b).1 hb).1
  queueFits := Nat.zero_le _
  queueInPiRange := nofun
  queueEmpty _ := rfl
  ntapsFits := Nat.zero_le _
  ntapsInRun := nofun
  tapsFinite := nofun
  decCntInRange := Nat.zero_lt_one
  histFits := Nat.zero_le _
  histTrimmed := rfl
  dcFinite := ⟨isFiniteC_czero, isFiniteC_czero⟩
  histFinite := nofun
  demFinite := isFiniteC_czero
  alphaFinite := isFinite64_zero64
  alphaInRun := nofun
  demKeptRange := Nat.zero_le _
  demHasPrevAgrees := rfl
  errClear _ := ⟨rfl, rfl⟩
  errLegal := nofun

theorem inv_takeReset {s : State} (h : Inv s) : Inv (takeReset s) :=
  inv_resetOf_withTaps h.buildLegal h.tapsWf s.offered

theorem inv_resetOf {b : Config.Build} (hb : b.legal = true) : Inv (State.resetOf b) :=
  inv_resetOf_withTaps hb (m := []) rfl []

/-! Fields the invariant does not mention -/

theorem Inv.withOffered {s : State} (h : Inv s) (es : List Event) : Inv { s with offered := es } := { h with }

theorem Inv.withResult {s : State} (h : Inv s) (r : Result) : Inv { s with result := r } := { h with }

theorem Inv.answerWrite {s : State} (h : Inv s) : Inv (answerWrite s) := h.withResult _

theorem Inv.answerRead {s : State} (h : Inv s) (v : U32) : Inv (answerRead v s) := h.withResult _

theorem Inv.answerLive {s : State} (h : Inv s) (v : BitVec 64) : Inv (answerLive v s) := { h with }

theorem Inv.countBeat {s : State} (h : Inv s) : Inv (countBeat s) := { h with }

/-! The fault procedure and the commands -/

/-- R305, R310: the tap and run conditions bind only in RUN, so a fault with a cause of R300 is sound from anywhere. -/
theorem Inv.raiseFault {s : State} (h : Inv s) {cause detail : BitVec 4} {stage : BitVec 3}
    (hl : legalErrCause ⟨cause, detail, stage⟩ = true) (index : U64) :
    Inv (raiseFault cause detail stage index s) :=
  { h with
    queueFits := Nat.zero_le _
    queueInPiRange := nofun
    queueEmpty := fun _ => rfl
    ntapsInRun := nofun
    tapsFinite := nofun
    alphaInRun := nofun
    errClear := fun hne => absurd rfl hne
    errLegal := fun _ => hl }

/-- ABORT empties Q and reports nothing, as IDLE wants (R160). -/
theorem Inv.aborted {s : State} (h : Inv s) :
    Inv { s with runState := .idle, queue := [], errCause := ⟨0#4, 0#4, 0#3⟩, errIndex := 0#64 } :=
  { h with
    queueFits := Nat.zero_le _
    queueInPiRange := nofun
    queueEmpty := fun _ => rfl
    ntapsInRun := nofun
    tapsFinite := nofun
    alphaInRun := nofun
    errClear := fun _ => ⟨rfl, rfl⟩
    errLegal := nofun }

/-- R158: leaving RUN for DONE drops what binds only in RUN. -/
theorem Inv.done {s : State} (h : Inv s) (hr : s.runState = .run) (irq : BitVec 2) :
    Inv { s with runState := .done, irqStatus := irq } :=
  { h with
    queueEmpty := nofun
    ntapsInRun := nofun
    tapsFinite := nofun
    alphaInRun := nofun
    errClear := fun _ => h.errClear (by simp [hr])
    errLegal := nofun }

/-- R164: each stage holds its old state or its cleared one. -/
theorem Inv.clearStages {s : State} (h : Inv s) (mask : BitVec 5) : Inv (clearStages mask s) :=
  { h with
    decCntInRange := by
      have := h.decCntInRange
      simp only [clearStages_decCnt, clearStages_wM]
      split
      · exact Nat.lt_of_le_of_lt (Nat.zero_le _) this
      · exact this
    histFits := by
      simp only [clearStages_hist, clearStages_wNtaps]
      split
      · exact Nat.zero_le _
      · exact h.histFits
    histTrimmed := by
      simp only [clearStages_hist]
      split
      · rfl
      · exact h.histTrimmed
    dcFinite := by
      simp only [clearStages_dcPx, clearStages_dcPy]
      split
      · exact ⟨isFiniteC_czero, isFiniteC_czero⟩
      · exact h.dcFinite
    histFinite := by
      simp only [clearStages_hist]
      split
      · nofun
      · exact h.histFinite
    demFinite := by
      simp only [clearStages_demPrev]
      split
      · exact isFiniteC_czero
      · exact h.demFinite
    demKeptRange := by
      simp only [clearStages_demKept]
      split
      · exact Nat.zero_le _
      · exact h.demKeptRange
    demHasPrevAgrees := by
      simp only [clearStages_demHasPrev, clearStages_demKept]
      split
      · rfl
      · exact h.demHasPrevAgrees }

/-- START before its checks is ABORT and a clearing of every stage, up to STATE (R152, R160). -/
theorem Inv.startClear_idle {s : State} (h : Inv s) : Inv { startClear s with runState := .idle } :=
  { h.aborted.clearStages allStages with }

/-- A START whose checks fail (R152, R153). -/
theorem Inv.startFailed {s : State} (h : Inv s) {e : ConfigFailure} (hc : checkConfig (startClear s) = .error e) :
    Inv (Machine.raiseFault 1#4 e.detail 0#3 e.index (startClear s)) :=
  h.startClear_idle.raiseFault (by simp [legalErrCause, checkConfig_error hc]) e.index

/-- A START whose checks pass: what the run needs of the working configuration is what they checked (R152, R153). -/
theorem Inv.started {s : State} (h : Inv s) {inc : F64} (hc : checkConfig (startClear s) = .ok inc) :
    Inv (startRun inc (startClear s)) := by
  obtain ⟨-, hm, hn, hfit, halpha, -, -, htaps, -⟩ := checkConfig_ok hc
  exact
  { h.startClear_idle with
    queueEmpty := fun _ => rfl
    ntapsFits := hfit
    ntapsInRun := fun _ => toNat_pos_of_ne_zero hn
    tapsFinite := fun _ => htaps
    decCntInRange := toNat_pos_of_ne_zero hm
    histFits := Nat.zero_le _
    alphaFinite := isFinite64_of_between halpha
    alphaInRun := fun _ => halpha
    errClear := fun _ => ⟨rfl, rfl⟩
    errLegal := nofun }

/-! The tap RAM -/

/-- A write of TAP_ADDR is taken only in range (R117). -/
theorem Inv.withTapAddr {s : State} (h : Inv s) {a : BitVec 16} (ha : a.toNat < s.build.tapDepth) :
    Inv { s with tapAddr := a } :=
  { h with tapAddrInRange := ha }

/-- R120: outside RUN no tap need be finite. -/
theorem Inv.tapWritten {s : State} (h : Inv s) (hr : s.runState ≠ .run) (v : F64) :
    Inv { s with taps := tapWrite s.taps s.tapAddr.toNat v, tapAddr := nextTapAddr s.build.tapDepth s.tapAddr } :=
  { h with
    tapsWf := tapWrite_wf h.tapsWf h.tapAddrInRange
    tapAddrInRange := nextTapAddr_lt h.buildLegal _
    tapsFinite := fun hrun => absurd hrun hr }

/-! A beat -/

/-- What the demodulator's part of a beat keeps of the invariant, whatever it gives (R252). -/
theorem demOnKept_sound {s : State} (h : Inv s) {keep : Bool} {f : Cplx} (hf : isFiniteC f = true) {d : DemNext}
    (hd : demOnKept keep s f = some d) :
    isFiniteC d.prev = true ∧ d.kept ≤ 2 ∧ d.hasPrev = decide (d.kept ≠ 0) ∧
      ∀ v ∈ d.out, inPiRange v = true := by
  rcases demOnKept_cases hd with ⟨-, rfl⟩ | ⟨-, -, rfl⟩ | ⟨-, -, -, rfl⟩
  · exact ⟨h.demFinite, h.demKeptRange, h.demHasPrevAgrees, by simp⟩
  · exact ⟨hf, Nat.min_le_right _ _, by simp, by simp⟩
  · exact ⟨hf, Nat.min_le_right _ _, by simp, by simp [inPiRange_angle]⟩

/-- R172: a beat whose values are all finite, taken with room in Q. -/
theorem Inv.commitBeat {s : State} (h : Inv s) (hr : inReady s = true) {x y m f : Cplx} (hx : isFiniteC x = true)
    (hy : isFiniteC y = true) (hm : isFiniteC m = true) (hf : isFiniteC f = true) {keep : Bool} {d : DemNext}
    (hd : demOnKept keep s f = some d) : Inv (commitBeat x y m d s) := by
  obtain ⟨hrun, hroom⟩ := run_of_inReady hr
  obtain ⟨hprev, hkept, hhas, hout⟩ := demOnKept_sound h hf hd
  exact
  { h with
    queueFits := by
      have : d.out.toList.length ≤ 1 := by cases d.out <;> simp
      simp only [commitBeat_queue, commitBeat_build, List.length_append]
      omega
    queueInPiRange := fun v hv => by
      rcases List.mem_append.1 hv with hv | hv
      · exact h.queueInPiRange v hv
      · exact hout v (Option.mem_toList.1 hv)
    queueEmpty := fun hne => by simp [hrun] at hne
    decCntInRange := decNext_lt h.decCntInRange
    histFits := histPush_length_le h.histFits
    histTrimmed := histPush_trimmed h.histTrimmed
    dcFinite := ⟨hx, hy⟩
    histFinite := fun z hz => (mem_of_mem_histPush hz).elim (fun e => e ▸ hm) (h.histFinite z)
    demFinite := hprev
    demKeptRange := hkept
    demHasPrevAgrees := hhas }

/-- R170, R174: a beat is committed with every value finite, or faults at one of the four stages. -/
theorem Inv.acceptBeat {s : State} (h : Inv s) (hr : inReady s = true) (x : Cplx) : Inv (acceptBeat x s) := by
  have hcount := h.countBeat
  unfold Machine.acceptBeat
  rcases processBeat_cases x s.inCount (Machine.countBeat s) with
    ⟨-, e⟩ | ⟨-, -, e⟩ | ⟨-, -, -, e⟩ | ⟨hy, hm, hf, ⟨-, e⟩ | ⟨d, hd, e⟩⟩ <;> rw [e]
  · exact hcount.raiseFault rfl _
  · exact hcount.raiseFault rfl _
  · exact hcount.raiseFault rfl _
  · exact hcount.raiseFault rfl _
  · exact hcount.commitBeat hr (isFiniteC_of_dcbStep hy) hy hm hf hd

/-- Q only gets shorter (R176). -/
theorem Inv.delivered {s : State} (h : Inv s) {v : F64} {rest : List F64} (hq : s.queue = v :: rest) (r : Result) :
    Inv { s with queue := rest, result := r } :=
  { h with
    queueFits := by
      have := h.queueFits
      simp only [hq, List.length_cons] at this
      exact Nat.le_of_succ_le this
    queueInPiRange := fun w hw => h.queueInPiRange w (by simp [hq, hw])
    queueEmpty := fun hne => by simp [h.queueEmpty hne] at hq }

/-! Every step -/

/-- Every change a transaction can make keeps the invariant. -/
theorem Inv.change {i : Instr} {s t : State} (h : Inv s) (c : Change i s t) : Inv t := by
  cases c with
  | quiet r e => exact e ▸ h.withResult r
  | live v hi e => exact e ▸ h.answerLive v
  | irqStatus w hi e => exact e ▸ { h with }
  | irqEnable w hi e => exact e ▸ { h with }
  | config fs m alpha f n e => exact e ▸ { h with }
  | tapAddr w hi hr hw e => exact e ▸ (h.withTapAddr hw).answerWrite
  | tapLo w hi hr e => exact e ▸ { h with }
  | tapReadLo hi ha e => exact e ▸ { h with }
  | tapReadHi hi e => exact e ▸ (h.withTapAddr (nextTapAddr_lt h.buildLegal _)).answerRead _
  | tapHi w hi hr ha e => exact e ▸ (h.tapWritten hr _).answerWrite
  | startFailed hi hr x hc e => exact e ▸ (h.startFailed hc).answerWrite
  | started hi hr inc hc e => exact e ▸ (h.started hc).answerWrite
  | eosFailed hi hr hk e => exact e ▸ (h.raiseFault rfl _).answerWrite
  | eosDone hi hr hk e => exact e ▸ (h.done hr _).answerWrite
  | aborted hi e => exact e ▸ h.aborted.answerWrite
  | stagesReset mask hi e => exact e ▸ (h.clearStages mask).answerWrite
  | waits b hb e => exact e ▸ h.withOffered _
  | beat x q hi hr hn e => exact e ▸ h.acceptBeat hr ⟨x, q⟩
  | delivered hi v rest hq e => exact e ▸ h.delivered hq _

theorem Inv.performEvent {e : Event} {s t : State} (h : Inv s) (hp : performEvent e s = .next t) : Inv t := by
  rcases performEvent_cases hp with ⟨-, rfl⟩ | ⟨x, -, c⟩
  · exact inv_takeReset h
  · exact h.change c

/-- Settles O57: a step performs one event, or keeps the state. -/
theorem stepKeepsInv : Obligations.StepKeepsInv := by
  intro s t h hstep
  rcases step_cases s with ⟨-, hs⟩ | ⟨e, rest, -, hs⟩ <;> rw [hs] at hstep
  · cases hstep
    exact ⟨h, rfl⟩
  · have hbuild := performEvent_build hstep
    exact ⟨(h.withOffered rest).performEvent hstep, hbuild⟩

/-- Settles O56: the counting facts speak of RUN and DONE, and reset leaves IDLE. -/
theorem resetIsSound : Obligations.ResetIsSound := by
  have hzero : inPiRange zero64 = true := by decide
  exact ⟨fun b hb => ⟨inv_resetOf hb, ⟨hzero, hzero⟩, ⟨nofun, nofun⟩⟩, by decide⟩

end Sys2Proof.Safety
end

section
/-! PROOF. The four rounded operations give the nearest value, ties to even (O47). The magnitude of `round64` is settled
on the patterns of bits 62:0 first; signs and the four operations are then read off. -/

namespace Sys2Proof.Machine

open Sys2Proof.Safety

/-! Magnitudes -/

/-- How far the magnitude of the pattern `p` lies from `num / den`, in units of 2^-1074 / `den`. -/
def missOf (num den p : Nat) : Nat := ((bitsMag p * den : Nat) - num : Int).natAbs

/-- The pattern of infinity stands for 2^1024 where rounding looks beyond the greatest finite value. -/
theorem bitsMag_inf : bitsMag (2047 * 2 ^ 52) = 2 ^ 53 * 2 ^ 2045 := by
  have h := bitsMag_grid (e := 2045) (m := 2 ^ 53) (.inr ⟨by norm_num, le_refl _⟩)
  rwa [show 2045 * 2 ^ 52 + 2 ^ 53 = 2047 * 2 ^ 52 by norm_num] at h

theorem bitsMag_maxFinite : bitsMag (2047 * 2 ^ 52 - 1) = (2 ^ 53 - 1) * 2 ^ 2045 := by
  have h := bitsMag_grid (e := 2045) (m := 2 ^ 53 - 1) (.inr ⟨by norm_num, by norm_num⟩)
  rwa [show 2045 * 2 ^ 52 + (2 ^ 53 - 1) = 2047 * 2 ^ 52 - 1 by norm_num] at h

/-- Twice the middle between the greatest finite value and 2^1024. -/
theorem overflow_middle :
    bitsMag (2047 * 2 ^ 52 - 1) + bitsMag (2047 * 2 ^ 52) = (2 ^ 54 - 1) * 2 ^ 2045 := by
  rw [bitsMag_inf, bitsMag_maxFinite, ← Nat.add_mul, show 2 ^ 53 - 1 + 2 ^ 53 = 2 ^ 54 - 1 from rfl]

/-- The rounded pattern is a nearest one, bounded at infinity. -/
theorem roundBits_missOf {num den : Nat} (hd : 0 < den) :
    ∃ g, roundBits num den = min g (2047 * 2 ^ 52) ∧ ∀ p, missOf num den g ≤ missOf num den p := by
  obtain ⟨g, hg, hn⟩ := roundBits_nearest (num := num) hd
  refine ⟨g, hg, fun p => ?_⟩
  have := hn p
  rw [Int.abs_eq_natAbs, Int.abs_eq_natAbs] at this
  exact Int.ofNat_le.1 this

/-- Below infinity the rounded pattern itself is a nearest one. -/
theorem roundBits_nearest_of_lt {num den : Nat} (hd : 0 < den) (hlt : roundBits num den < 2047 * 2 ^ 52) (p : Nat) :
    missOf num den (roundBits num den) ≤ missOf num den p := by
  obtain ⟨g, hg, hn⟩ := roundBits_missOf (num := num) hd
  have : roundBits num den = g := by omega
  rw [this]
  exact hn p

/-- Half a divisor is left exactly where `roundEven` is half a divisor off, on either side. -/
theorem two_mul_mod_of_half {num den n : Nat} (hd : 0 < den)
    (h : 2 * (((n * den : Nat) : Int) - num).natAbs = den) :
    2 * (num % den) = den := by
  obtain ⟨half, hhalf⟩ : ∃ half, den = 2 * half := ⟨_, h.symm⟩
  obtain ⟨k, hk⟩ : ∃ k, num = half + k * den := by
    rcases Nat.lt_or_ge num (n * den) with hlt | hge
    · obtain ⟨k, rfl⟩ : ∃ k, n = k + 1 := Nat.exists_eq_succ_of_ne_zero (by rintro rfl; simp at hlt)
      have hstep := Nat.add_one_mul k den
      exact ⟨k, by omega⟩
    · exact ⟨n, by omega⟩
  rw [hk, Nat.add_mul_mod_self_right, Nat.mod_eq_of_lt (by omega)]
  exact hhalf.symm

/-- `roundEven_near` in whole multiples of the divisor. -/
theorem roundEven_near_mul {num den : Nat} (hd : 0 < den) :
    2 * num ≤ 2 * (roundEven num den * den) + den ∧ 2 * (roundEven num den * den) ≤ 2 * num + den := by
  have h := roundEven_near (num := num) hd
  rwa [Nat.add_one_mul (2 * _), Nat.mul_assoc] at h

/-- When another whole number is as near, `roundEven` is half a divisor off, and so even. -/
theorem roundEven_even_of_tie {num den k : Nat} (hd : 0 < den) (hk : k ≠ roundEven num den)
    (ht : (((roundEven num den * den : Nat) : Int) - num).natAbs = (((k * den : Nat) : Int) - num).natAbs) :
    roundEven num den % 2 = 0 := by
  obtain ⟨hup, hdown⟩ := roundEven_near_mul (num := num) hd
  apply roundEven_tie
  generalize roundEven num den = n at *
  apply two_mul_mod_of_half hd (n := n)
  rcases Nat.lt_or_gt_of_ne hk with hlt | hgt
  · have := Nat.mul_le_mul_right den (Nat.succ_le_of_lt hlt)
    rw [Nat.succ_mul] at this
    omega
  · have := Nat.mul_le_mul_right den (Nat.succ_le_of_lt hgt)
    rw [Nat.succ_mul] at this
    omega

/-- A pattern of another magnitude that is as near as the rounded one makes that one even (R10). -/
theorem roundBits_even_of_tie {num den p : Nat} (hd : 0 < den) (hlt : roundBits num den < 2047 * 2 ^ 52)
    (hp : p ≠ roundBits num den) (ht : missOf num den (roundBits num den) = missOf num den p) :
    roundBits num den % 2 = 0 := by
  have hnear := roundBits_nearest_of_lt hd hlt
  obtain ⟨e, m, hr, hm, h⟩ := roundBits_grid (num := num) hd
  replace hr : roundBits num den = e * 2 ^ 52 + m := by omega
  have hmag : bitsMag (roundBits num den) = m * 2 ^ e := hr ▸ bitsMag_grid (by omega)
  -- a magnitude below the significand's range is further away than the range's least one
  have hdvd : 2 ^ e ∣ bitsMag p := by
    rcases h with ⟨rfl, -, -⟩ | ⟨⟨hlo, -⟩, -, -⟩
    · simp
    · refine dvd_bitsMag (Nat.le_of_not_lt fun hsmall => ?_)
      have hleast : bitsMag (e * 2 ^ 52 + 2 ^ 52) = 2 ^ (52 + e) := by
        rw [bitsMag_grid (by omega), pow_add]
      have hcmp := hnear (e * 2 ^ 52 + 2 ^ 52)
      have hfar : bitsMag p * den < 2 ^ (52 + e) * den := Nat.mul_lt_mul_of_pos_right hsmall hd
      rw [ht] at hcmp
      simp only [missOf, hleast] at hcmp
      omega
  obtain ⟨k, hk⟩ := hdvd
  have hD : 0 < den * 2 ^ e := by positivity
  have hmD : bitsMag (roundBits num den) * den = m * (den * 2 ^ e) := by rw [hmag]; ring
  have hkD : bitsMag p * den = k * (den * 2 ^ e) := by rw [hk]; ring
  have hne : k ≠ m := by
    rintro rfl
    exact hp (bitsMag_strictMono.injective (by rw [hk, hmag, Nat.mul_comm]))
  simp only [missOf, hmD, hkD, hm] at ht
  have := roundEven_even_of_tie hD (hm ▸ hne) ht
  omega

/-- Where rounding leaves the finite values: at the middle, which goes to infinity, the even one of the two (R10). -/
theorem roundBits_lt_inf_iff {num den : Nat} (hd : 0 < den) :
    roundBits num den < 2047 * 2 ^ 52 ↔ 2 * num < (2 ^ 54 - 1) * 2 ^ 2045 * den := by
  rw [← overflow_middle, Nat.add_mul]
  have hmono : ∀ {p q}, p ≤ q → bitsMag p * den ≤ bitsMag q * den := fun h =>
    Nat.mul_le_mul_right den (bitsMag_strictMono.monotone h)
  have hlast : bitsMag (2047 * 2 ^ 52 - 1) * den < bitsMag (2047 * 2 ^ 52) * den :=
    Nat.mul_lt_mul_of_pos_right (bitsMag_strictMono (by norm_num)) hd
  constructor
  · intro hlt
    have hcmp := roundBits_nearest_of_lt hd hlt (2047 * 2 ^ 52)
    have hle : bitsMag (roundBits num den) * den ≤ bitsMag (2047 * 2 ^ 52 - 1) * den := hmono (by omega)
    by_contra hnum
    have htie : missOf num den (roundBits num den) = missOf num den (2047 * 2 ^ 52) := by
      simp only [missOf] at hcmp ⊢
      omega
    have hmax : bitsMag (roundBits num den) * den = bitsMag (2047 * 2 ^ 52 - 1) * den := by
      simp only [missOf] at htie
      omega
    have hodd := bitsMag_strictMono.injective (Nat.eq_of_mul_eq_mul_right hd hmax)
    have heven := roundBits_even_of_tie hd hlt (by omega) htie
    omega
  · intro hnum
    by_contra hge
    obtain ⟨g, hg, hn⟩ := roundBits_missOf (num := num) hd
    have hcmp := hn (2047 * 2 ^ 52 - 1)
    have hle : bitsMag (2047 * 2 ^ 52) * den ≤ bitsMag g * den := hmono (by omega)
    simp only [missOf] at hcmp
    omega

/-! Signs -/

/-- `n` with the given sign. -/
def signed (neg : Bool) (n : Nat) : Int := if neg then -(n : Int) else n

@[simp] theorem natAbs_signed (neg : Bool) (n : Nat) : (signed neg n).natAbs = n := by
  cases neg <;> simp [signed]

theorem signed_mul (a b : Bool) (m n : Nat) : signed a m * signed b n = signed (a != b) (m * n) := by
  cases a <;> cases b <;> simp [signed]

theorem signed_mul_pow (neg : Bool) (m k : Nat) : signed neg m * 2 ^ k = signed neg (m * 2 ^ k) := by
  cases neg <;> simp [signed]

theorem signed_natAbs (v : Int) : signed (decide (v < 0)) v.natAbs = v := by
  unfold signed
  split <;> rename_i h <;> simp only [decide_eq_true_eq] at h <;> omega

theorem units64_eq (x : F64) : units64 x = signed (sign64 x) (bitsMag (lowBits x)) := by
  rw [units64, mag64_eq]
  rfl

@[simp] theorem units64_round64 (neg : Bool) (num den : Nat) :
    units64 (round64 neg num den) = signed neg (bitsMag (roundBits num den)) := by
  simp [units64_eq]

theorem roundBits_zero (den : Nat) : roundBits 0 den = 0 := by
  simp [roundBits, roundEven, scale64]

/-- How far a value lies from the one of the given sign and of magnitude `num / den`. -/
def signedMiss (neg : Bool) (num den : Nat) (v : F64) : Nat := (units64 v * den - signed neg num).natAbs

/-- On the side of the sign a value misses by what its magnitude misses, on the other side by both magnitudes. -/
theorem signedMiss_eq (neg : Bool) (num den : Nat) (v : F64) :
    signedMiss neg num den v =
      if sign64 v = neg then missOf num den (lowBits v) else bitsMag (lowBits v) * den + num := by
  rw [signedMiss, units64_eq, missOf]
  have hcast : ((bitsMag (lowBits v) * den : Nat) : Int) = bitsMag (lowBits v) * den := Int.natCast_mul _ _
  by_cases hs : sign64 v = neg
  · rw [if_pos hs, hs, hcast]
    cases neg
    · simp [signed]
    · simp only [signed, if_true, Int.neg_mul]
      omega
  · rw [if_neg hs, Bool.eq_not_of_ne hs]
    cases neg <;> simp only [signed, Bool.not_true, Bool.not_false, Bool.false_eq_true, if_true, if_false,
      Int.neg_mul] <;> omega

theorem missOf_le_signedMiss (neg : Bool) (num den : Nat) (v : F64) :
    missOf num den (lowBits v) ≤ signedMiss neg num den v := by
  rw [signedMiss_eq, missOf]
  split <;> omega

/-- Two values of one magnitude are as near only when they are the same value, or when the exact one is zero. -/
theorem signedMiss_opposite {neg : Bool} {num den : Nat} (hd : 0 < den) {v : F64} (hs : sign64 v ≠ neg)
    (hm : missOf num den (lowBits v) = signedMiss neg num den v) : num = 0 ∨ bitsMag (lowBits v) = 0 := by
  rw [signedMiss_eq, if_neg hs, missOf] at hm
  rcases Nat.eq_zero_or_pos (bitsMag (lowBits v)) with h0 | hpos
  · exact .inr h0
  · have := Nat.mul_pos hpos hd
    exact .inl (by omega)

/-- A value as near as the rounded one is that value, or makes it even (R10). -/
theorem roundBits_even_of_signed_tie {neg : Bool} {num den : Nat} (hd : 0 < den)
    (hlt : roundBits num den < 2047 * 2 ^ 52) {v : F64}
    (ht : missOf num den (roundBits num den) = signedMiss neg num den v)
    (hne : units64 v ≠ signed neg (bitsMag (roundBits num den))) : roundBits num den % 2 = 0 := by
  have hnear := roundBits_nearest_of_lt hd hlt (lowBits v)
  have hmag := missOf_le_signedMiss neg num den v
  have hsame : missOf num den (lowBits v) = signedMiss neg num den v := by omega
  by_cases hp : lowBits v = roundBits num den
  · have hs : sign64 v ≠ neg := fun hs => hne (by rw [units64_eq, hs, hp])
    rcases signedMiss_opposite hd hs hsame with rfl | h0
    · simp [roundBits_zero]
    · refine absurd ?_ hne
      rw [units64_eq, ← hp, h0]
      simp [signed]
  · exact roundBits_even_of_tie hd hlt hp (by omega)

/-- A magnitude that rounds to no finite value is not zero, and its value is the infinity of its sign (R10). -/
theorem round64_of_overflow {neg : Bool} {num den : Nat} (hover : ¬ roundBits num den < 2047 * 2 ^ 52) :
    round64 neg num den = signedInf (decide (signed neg num < 0)) := by
  have hbits : roundBits num den = 2047 * 2 ^ 52 := by
    have := roundBits_le_inf num den
    omega
  have hnum : num ≠ 0 := by
    rintro rfl
    simp [roundBits_zero] at hover
  have hneg : decide (signed neg num < 0) = neg := by
    cases neg
    · simp [signed]
    · simpa [signed] using Nat.pos_of_ne_zero hnum
  rw [hneg, round64, hbits]
  cases neg <;> rfl

/-- The rounded magnitude with a sign is the nearest value to the exact one with that sign (R10). -/
theorem round64_isNearestEven (neg : Bool) {num den : Nat} (hd : 0 < den) :
    IsNearestEven (round64 neg num den) (signed neg num) den := by
  have hfin : isFinite64 (round64 neg num den) = true ↔ roundBits num den < 2047 * 2 ^ 52 := by
    rw [isFinite64_iff, lowBits_round64]
  have hmiss : signedMiss neg num den (round64 neg num den) = missOf num den (roundBits num den) := by
    simp [signedMiss_eq]
  refine ⟨?_, fun hinf => ?_, fun hf v _ => ?_⟩
  · rw [hfin, natAbs_signed, roundBits_lt_inf_iff hd]
  · have hover : ¬ roundBits num den < 2047 * 2 ^ 52 := by simpa [hinf] using hfin
    exact round64_of_overflow hover
  · have hlt := hfin.1 hf
    refine ⟨?_, fun ht hne => ?_⟩
    · exact hmiss.trans_le ((roundBits_nearest_of_lt hd hlt _).trans (missOf_le_signedMiss neg num den v))
    · have heven := roundBits_even_of_signed_tie hd hlt (hmiss.symm.trans ht) (by simpa using hne)
      rw [toNat_round64]
      split <;> omega

/-! The four operations -/

theorem roundInt64_isNearestEven (v : Int) : IsNearestEven (roundInt64 v) v 1 := by
  have h := round64_isNearestEven (decide (v < 0)) (num := v.natAbs) Nat.one_pos
  rwa [signed_natAbs] at h

/-- An exact zero is the value of either zero. -/
theorem signedZero_isNearestEven (neg : Bool) : IsNearestEven (signedZero neg) 0 1 := by
  have hround : round64 neg 0 1 = signedZero neg := by
    rw [round64, roundBits_zero]
    cases neg <;> rfl
  have h := round64_isNearestEven neg (num := 0) Nat.one_pos
  rw [hround] at h
  cases neg <;> exact h

theorem units64_signed (x : F64) : units64 x = signed (sign64 x) (mag64 x) := rfl

theorem add64_isNearestEven {a b : F64} (ha : isFinite64 a = true) (hb : isFinite64 b = true) :
    IsNearestEven (add64 a b) (units64 a + units64 b) 1 := by
  rw [add64_finite ha hb]
  split
  · rename_i hzero
    rw [hzero]
    exact signedZero_isNearestEven _
  · exact roundInt64_isNearestEven _

theorem sub64_isNearestEven {a b : F64} (ha : isFinite64 a = true) (hb : isFinite64 b = true) :
    IsNearestEven (sub64 a b) (units64 a - units64 b) 1 := by
  have h := add64_isNearestEven ha ((isFinite64_neg64 b).trans hb)
  rwa [units64_neg64, ← sub_eq_add_neg] at h

/-- The library's fact, in the power Mathlib writes: at the literal 1074 the two forms of the power do not unify
without evaluating it. -/
theorem shiftLeft_eq_mul_pow (m k : Nat) : m <<< k = m * 2 ^ k := Nat.shiftLeft_eq m k

theorem mul64_finite {a b : F64} (ha : isFinite64 a = true) (hb : isFinite64 b = true) :
    mul64 a b = round64 (sign64 a != sign64 b) (mag64 a * mag64 b) (2 ^ 1074) := by
  obtain ⟨hna, hia⟩ := not_nan_of_finite ha
  obtain ⟨hnb, hib⟩ := not_nan_of_finite hb
  rw [mul64, if_neg (by simp [hna, hnb]), if_neg (by simp [hia, hib]), shiftLeft_eq_mul_pow,
    Nat.one_mul]

theorem mul64_isNearestEven {a b : F64} (ha : isFinite64 a = true) (hb : isFinite64 b = true) :
    IsNearestEven (mul64 a b) (units64 a * units64 b) (2 ^ 1074) := by
  rw [mul64_finite ha hb, units64_signed, units64_signed, signed_mul]
  exact round64_isNearestEven _ (by positivity)

theorem mag64_pos_of_not_zero {b : F64} (h : isZero64 b = false) : 0 < mag64 b := by
  have hl : lowBits b ≠ 0 := fun h0 => by simp [(isZero64_iff b).2 h0] at h
  rw [mag64_eq, ← bitsMag_zero]
  exact bitsMag_strictMono (Nat.pos_of_ne_zero hl)

theorem div64_finite {a b : F64} (ha : isFinite64 a = true) (hb : isFinite64 b = true) (h0 : isZero64 b = false) :
    div64 a b = round64 (sign64 a != sign64 b) (mag64 a * 2 ^ 1074) (mag64 b) := by
  obtain ⟨hna, hia⟩ := not_nan_of_finite ha
  obtain ⟨hnb, hib⟩ := not_nan_of_finite hb
  rw [div64, if_neg (by simp [hna, hnb]), if_neg (by simp [hia]), if_neg (by simp [hib]), if_neg (by simp [h0]),
    shiftLeft_eq_mul_pow]

theorem sign_units64 {b : F64} (h : isZero64 b = false) : (units64 b).sign = signed (sign64 b) 1 := by
  have := mag64_pos_of_not_zero h
  rw [units64_signed]
  cases sign64 b
  · exact Int.sign_eq_one_of_pos (by simpa [signed] using this)
  · exact Int.sign_eq_neg_one_of_neg (by simpa [signed] using this)

theorem div64_isNearestEven {a b : F64} (ha : isFinite64 a = true) (hb : isFinite64 b = true)
    (h0 : isZero64 b = false) :
    IsNearestEven (div64 a b) (units64 a * (units64 b).sign * 2 ^ 1074) (units64 b).natAbs := by
  have hnum : units64 a * (units64 b).sign * 2 ^ 1074 = signed (sign64 a != sign64 b) (mag64 a * 2 ^ 1074) := by
    rw [sign_units64 h0, units64_signed a, signed_mul, Nat.mul_one]
    exact signed_mul_pow _ _ _
  rw [hnum, units64_signed b, natAbs_signed, div64_finite ha hb h0]
  exact round64_isNearestEven _ (mag64_pos_of_not_zero h0)

/-- Settles O47, one operation at a time. -/
theorem arithmeticRoundsToNearestEven : Obligations.ArithmeticRoundsToNearestEven := fun _ _ ha hb =>
  ⟨add64_isNearestEven ha hb, sub64_isNearestEven ha hb, mul64_isNearestEven ha hb, div64_isNearestEven ha hb⟩

end Sys2Proof.Machine
end

section
/-! PROOF. The remainder is exact (O48): it is a whole number of steps of the finer operand and no larger than either
operand needs, so it is a value of the format and rounding leaves it alone. -/

namespace Sys2Proof.Machine

/-! Magnitudes of the format -/

/-- A whole number of steps that fits 53 bits is a magnitude of the format, at a finer step if need be. -/
theorem exists_bits_of_steps (e : Nat) : ∀ {k : Nat}, k < 2 ^ 53 → ∃ p, bitsMag p = k * 2 ^ e := by
  induction e with
  | zero => exact fun {k} hk => ⟨0 * 2 ^ 52 + k, bitsMag_grid (.inl ⟨rfl, hk.le⟩)⟩
  | succ e ih =>
    intro k hk
    by_cases hbig : 2 ^ 52 ≤ k
    · exact ⟨(e + 1) * 2 ^ 52 + k, bitsMag_grid (.inr ⟨hbig, hk.le⟩)⟩
    · obtain ⟨p, hp⟩ := ih (k := k * 2) (by omega)
      exact ⟨p, by rw [hp, pow_succ]; ring⟩

theorem bitsMag_steps (p : Nat) : ∃ m e, m < 2 ^ 53 ∧ bitsMag p = m * 2 ^ e := by
  obtain ⟨e, m, rfl, h⟩ := bits_grid p
  exact ⟨m, e, by omega, bitsMag_grid (by omega)⟩

/-- A magnitude no larger than a finite value's is kept by rounding, and stays finite. -/
theorem roundBits_of_bitsMag_le {g p n : Nat} (hg : bitsMag g = n) (hle : n ≤ bitsMag p) (hp : p < 2047 * 2 ^ 52) :
    roundBits n 1 < 2047 * 2 ^ 52 ∧ bitsMag (roundBits n 1) = n := by
  have hgp : g ≤ p := bitsMag_strictMono.le_iff_le.1 (hg.trans_le hle)
  have hround := roundBits_bitsMag Nat.one_pos (hgp.trans_lt hp)
  rw [Nat.mul_one, hg] at hround
  exact ⟨by omega, by rw [hround, hg]⟩

/-! The remainder of two magnitudes -/

/-- What is left of `num` when the nearest whole multiple of `den` is taken off. -/
def restOf (num den : Nat) : Int := (num : Int) - (roundEven num den * den : Nat)

theorem two_mul_restOf_le {num den : Nat} (hd : 0 < den) : 2 * (restOf num den).natAbs ≤ den := by
  obtain ⟨hup, hdown⟩ := roundEven_near_mul (num := num) hd
  unfold restOf
  omega

theorem restOf_le {num den : Nat} (hd : 0 < den) : (restOf num den).natAbs ≤ num := by
  have hhalf := two_mul_restOf_le (num := num) hd
  unfold restOf at hhalf ⊢
  rcases Nat.eq_zero_or_pos (roundEven num den) with h0 | hpos
  · simp [h0]
  · have := Nat.le_mul_of_pos_left den hpos
    omega

theorem roundEven_even_of_half {num den : Nat} (hd : 0 < den) (h : 2 * (restOf num den).natAbs = den) :
    roundEven num den % 2 = 0 := by
  unfold restOf at h
  exact roundEven_tie (two_mul_mod_of_half hd (n := roundEven num den) (by omega))

theorem dvd_restOf {d num den : Nat} (hnum : d ∣ num) (hden : d ∣ den) : d ∣ (restOf num den).natAbs :=
  Int.natCast_dvd.1 (dvd_sub (Int.natCast_dvd_natCast.2 hnum) (Int.natCast_dvd_natCast.2 (hden.mul_left _)))

/-- A multiple of a step, no larger than 53 bits of that step, is a magnitude of the format. -/
theorem exists_bits_of_dvd {e m n : Nat} (hm : m < 2 ^ 53) (hdvd : 2 ^ e ∣ n) (hle : n ≤ m * 2 ^ e) :
    ∃ g, bitsMag g = n := by
  obtain ⟨k, rfl⟩ := hdvd
  rw [Nat.mul_comm] at hle ⊢
  have hk : k ≤ m := Nat.le_of_mul_le_mul_right hle (by positivity)
  exact exists_bits_of_steps e (hk.trans_lt hm)

/-- The remainder of two magnitudes of the format is one, at the finer of their steps. -/
theorem exists_bits_restOf {p q : Nat} (hq : 0 < bitsMag q) :
    ∃ g, bitsMag g = (restOf (bitsMag p) (bitsMag q)).natAbs := by
  obtain ⟨m, e, hm, hp⟩ := bitsMag_steps p
  obtain ⟨m', e', hm', hq'⟩ := bitsMag_steps q
  have hdvdp : ∀ {f}, f ≤ e → 2 ^ f ∣ bitsMag p := fun h => hp ▸ (pow_dvd_pow 2 h).mul_left m
  have hdvdq : ∀ {f}, f ≤ e' → 2 ^ f ∣ bitsMag q := fun h => hq' ▸ (pow_dvd_pow 2 h).mul_left m'
  rcases Nat.le_total e e' with hee | hee
  · exact exists_bits_of_dvd hm (dvd_restOf (hdvdp le_rfl) (hdvdq hee)) ((restOf_le hq).trans hp.le)
  · have hle : (restOf (bitsMag p) (bitsMag q)).natAbs ≤ bitsMag q := by
      have := two_mul_restOf_le (num := bitsMag p) hq
      omega
    exact exists_bits_of_dvd hm' (dvd_restOf (hdvdp hee) (hdvdq le_rfl)) (hle.trans hq'.le)

/-! The operation -/

theorem rem64_finite {a b : F64} (ha : isFinite64 a = true) (hb : isFinite64 b = true) (h0 : isZero64 b = false) :
    rem64 a b =
      if restOf (mag64 a) (mag64 b) = 0 then signedZero (sign64 a)
      else round64 (sign64 a != decide (restOf (mag64 a) (mag64 b) < 0)) (restOf (mag64 a) (mag64 b)).natAbs 1 := by
  obtain ⟨hna, hia⟩ := not_nan_of_finite ha
  obtain ⟨hnb, hib⟩ := not_nan_of_finite hb
  rw [rem64, if_neg (by simp [hna, hnb, hia, h0]), if_neg (by simp [hib])]
  rfl

theorem units64_signedZero (neg : Bool) : units64 (signedZero neg) = 0 := by
  cases neg <;> decide

theorem isFinite64_signedZero (neg : Bool) : isFinite64 (signedZero neg) = true := by
  cases neg <;> decide

/-- The value of the remainder: what is left of the magnitudes, with the sign of the dividend, unrounded (R10). -/
theorem rem64_exact {a b : F64} (ha : isFinite64 a = true) (hb : isFinite64 b = true) (h0 : isZero64 b = false) :
    isFinite64 (rem64 a b) = true ∧
      units64 (rem64 a b) = signed (sign64 a) 1 * restOf (mag64 a) (mag64 b) := by
  have hpos := mag64_pos_of_not_zero h0
  rw [rem64_finite ha hb h0]
  by_cases hr : restOf (mag64 a) (mag64 b) = 0
  · rw [if_pos hr, hr, mul_zero]
    exact ⟨isFinite64_signedZero _, units64_signedZero _⟩
  · rw [if_neg hr]
    obtain ⟨g, hg⟩ := exists_bits_restOf (p := lowBits a) (mag64_eq b ▸ hpos)
    rw [← mag64_eq, ← mag64_eq] at hg
    obtain ⟨hlt, hkeep⟩ := roundBits_of_bitsMag_le hg (mag64_eq a ▸ restOf_le hpos) ((isFinite64_iff a).1 ha)
    refine ⟨by rwa [isFinite64_iff, lowBits_round64], ?_⟩
    have hsign := signed_mul (sign64 a) (decide (restOf (mag64 a) (mag64 b) < 0)) 1 (restOf (mag64 a) (mag64 b)).natAbs
    rw [units64_round64, hkeep, ← Nat.one_mul (Int.natAbs _), ← hsign, signed_natAbs]

/-- Settles O48: the multiple taken off is the one nearest the quotient of the magnitudes, with the quotient's sign. -/
theorem remainderIsExact : Obligations.RemainderIsExact := by
  intro a b ha hb h0
  have hpos := mag64_pos_of_not_zero h0
  obtain ⟨hfin, hval⟩ := rem64_exact ha hb h0
  have hmag : (units64 (rem64 a b)).natAbs = (restOf (mag64 a) (mag64 b)).natAbs := by
    rw [hval, Int.natAbs_mul, natAbs_signed, Nat.one_mul]
  have hb' : (units64 b).natAbs = mag64 b := by rw [units64_signed, natAbs_signed]
  refine ⟨hfin, signed (sign64 a != sign64 b) (roundEven (mag64 a) (mag64 b)), ?_, ?_, fun htie => ?_⟩
  · rw [hval, units64_signed a, units64_signed b, signed_mul, restOf]
    have hsign : ((sign64 a != sign64 b) != sign64 b) = sign64 a := by simp
    rw [hsign]
    cases sign64 a
    · simp [signed]
    · simp [signed, neg_add_eq_sub]
  · rw [hmag, hb']
    exact two_mul_restOf_le hpos
  · rw [hmag, hb'] at htie
    have heven := roundEven_even_of_half hpos htie
    unfold signed
    split <;> omega

end Sys2Proof.Machine
end

section
/-! PROOF. The phase and the working increment stay in [-PI64, PI64] (O59). The range is one of magnitudes: TWO_PI64 is
twice its bound, rounding takes no exact sum past a value of the format, and the remainder is at most half the
divisor. -/

namespace Sys2Proof.Machine

/-! Magnitudes -/

theorem natAbs_units64 (v : F64) : (units64 v).natAbs = mag64 v := by
  rw [units64_signed, natAbs_signed]

theorem mag64_le_iff (v w : F64) : mag64 v ≤ mag64 w ↔ lowBits v ≤ lowBits w := by
  rw [mag64_eq, mag64_eq, bitsMag_strictMono.le_iff_le]

theorem isFinite64_of_mag64_le {v w : F64} (h : mag64 v ≤ mag64 w) (hw : isFinite64 w = true) :
    isFinite64 v = true := by
  rw [isFinite64_iff] at hw ⊢
  exact ((mag64_le_iff v w).1 h).trans_lt hw

theorem natAbs_order64 (x : F64) : (order64 x).natAbs = lowBits x := by
  rw [order64_eq]
  split <;> simp

theorem inPiRange_iff_mag64 (v : F64) : inPiRange v = true ↔ mag64 v ≤ mag64 pi64 := by
  have hpi : order64 pi64 = lowBits pi64 := rfl
  have hv := natAbs_order64 v
  rw [inPiRange_iff, hpi, mag64_le_iff]
  constructor
  · rintro ⟨-, hlo, hhi⟩
    omega
  · intro h
    have hfin : isFinite64 v = true := isFinite64_of_mag64_le ((mag64_le_iff v pi64).2 h) (by decide)
    exact ⟨(not_nan_of_finite hfin).1, by omega, by omega⟩

theorem units64_pi64 : units64 pi64 = mag64 pi64 := rfl

theorem units64_twoPi64 : units64 twoPi64 = mag64 twoPi64 := rfl

/-- TWO_PI64 is 2·PI64 exactly (R11). -/
theorem mag64_twoPi64 : mag64 twoPi64 = 2 * mag64 pi64 := by decide +kernel

/-- A value of the format that bounds the exact sum bounds the rounded one (R10). -/
theorem mag64_add64_le {a b c : F64} (ha : isFinite64 a = true) (hb : isFinite64 b = true)
    (h : (units64 a + units64 b).natAbs ≤ mag64 c) : mag64 (add64 a b) ≤ mag64 c := by
  rw [add64_finite ha hb]
  split
  · rw [← natAbs_units64, units64_signedZero]
    exact Nat.zero_le _
  · rw [mag64_le_iff, roundInt64, lowBits_round64]
    exact roundBits_le Nat.one_pos (by rwa [Nat.mul_one, ← mag64_eq])

/-! The oscillator -/

/-- A sum of two values of the range is at most a whole turn, and `Wrap` takes a turn off what is beyond half a turn
(R202). -/
theorem inPiRange_ncoNext {phi inc : F64} (hphi : inPiRange phi = true) (hinc : inPiRange inc = true) :
    inPiRange (ncoNext phi inc) = true := by
  rw [inPiRange_iff_mag64] at hphi hinc
  have hpi : isFinite64 pi64 = true := by decide
  have htwoPi : isFinite64 twoPi64 = true := by decide
  have hphiFin := isFinite64_of_mag64_le hphi hpi
  have hincFin := isFinite64_of_mag64_le hinc hpi
  have hsum : mag64 (add64 phi inc) ≤ mag64 twoPi64 := by
    apply mag64_add64_le hphiFin hincFin
    rw [← natAbs_units64] at hphi hinc
    have := mag64_twoPi64
    omega
  have hsumFin := isFinite64_of_mag64_le hsum htwoPi
  unfold ncoNext
  generalize add64 phi inc = s at hsum hsumFin
  have hturn := mag64_twoPi64
  rw [← natAbs_units64] at hsum
  unfold wrapPhase
  split
  · rename_i hover
    rw [lt64_iff hpi hsumFin, units64_pi64] at hover
    rw [inPiRange_iff_mag64, sub64]
    apply mag64_add64_le hsumFin ((isFinite64_neg64 _).trans htwoPi)
    rw [units64_neg64, units64_twoPi64]
    omega
  · split
    · rename_i hunder
      rw [lt64_iff hsumFin ((isFinite64_neg64 _).trans hpi), units64_neg64, units64_pi64] at hunder
      rw [inPiRange_iff_mag64]
      apply mag64_add64_le hsumFin htwoPi
      rw [units64_twoPi64]
      omega
    · rename_i hover hunder
      rw [lt64_iff hpi hsumFin, units64_pi64] at hover
      rw [lt64_iff hsumFin ((isFinite64_neg64 _).trans hpi), units64_neg64, units64_pi64] at hunder
      rw [inPiRange_iff_mag64, ← natAbs_units64]
      omega

/-- The remainder by a whole turn is at most half a turn (R200). -/
theorem inPiRange_incReduced {f : F64} {fs : U32} (h : isFinite64 (incRaw f fs) = true) :
    inPiRange (incReduced f fs) = true := by
  have hnz : isZero64 twoPi64 = false := by decide
  obtain ⟨-, hval⟩ := rem64_exact h (by decide : isFinite64 twoPi64 = true) hnz
  have hhalf := two_mul_restOf_le (num := mag64 (incRaw f fs)) (mag64_pos_of_not_zero hnz)
  have hturn := mag64_twoPi64
  rw [inPiRange_iff_mag64, ← natAbs_units64, incReduced, hval, Int.natAbs_mul, natAbs_signed, Nat.one_mul]
  omega

end Sys2Proof.Machine

namespace Sys2Proof.Safety

open Sys2Proof.Machine

theorem inPiRange_zero64 : inPiRange zero64 = true := by decide

/-! Every operation keeps the range: the phase is cleared or advanced, the increment latched from a finite IncRaw -/

theorem PhaseInRange.clearStages {s : State} (h : PhaseInRange s) (mask : BitVec 5) :
    PhaseInRange (clearStages mask s) := by
  obtain ⟨hphi, hinc⟩ := h
  refine ⟨?_, hinc⟩
  rw [clearStages_phi]
  split
  · exact inPiRange_zero64
  · exact hphi

theorem PhaseInRange.startClear {s : State} (h : PhaseInRange s) : PhaseInRange (startClear s) :=
  h.clearStages allStages

/-- R153 check 6 lets only a finite IncRaw be reduced. -/
theorem PhaseInRange.started {s : State} (h : PhaseInRange s) {inc : F64}
    (hc : checkConfig (Machine.startClear s) = .ok inc) :
    PhaseInRange (startRun inc (Machine.startClear s)) := by
  obtain ⟨-, -, -, -, -, -, hraw, -, rfl⟩ := checkConfig_ok hc
  obtain ⟨hphi, -⟩ := h.startClear
  exact ⟨hphi, inPiRange_incReduced hraw⟩

/-- A beat that faults commits no phase (R174); a committed one advances it (R201). -/
theorem PhaseInRange.acceptBeat {s : State} (h : PhaseInRange s) (x : Cplx) : PhaseInRange (acceptBeat x s) := by
  unfold Machine.acceptBeat
  rcases processBeat_cases x s.inCount (countBeat s) with
    ⟨-, e⟩ | ⟨-, -, e⟩ | ⟨-, -, -, e⟩ | ⟨-, -, -, ⟨-, e⟩ | ⟨d, -, e⟩⟩ <;> rw [e]
  · exact h
  · exact h
  · exact h
  · exact h
  · obtain ⟨hphi, hinc⟩ := h
    exact ⟨inPiRange_ncoNext hphi hinc, hinc⟩

theorem PhaseInRange.change {i : Instr} {s t : State} (h : PhaseInRange s) (c : Change i s t) : PhaseInRange t := by
  cases c with
  | startFailed hi hr x hc e => subst e; exact h.startClear
  | started hi hr inc hc e => subst e; exact h.started hc
  | stagesReset mask hi e => subst e; exact h.clearStages mask
  | beat x q hi hr hn e => subst e; exact h.acceptBeat ⟨x, q⟩
  | _ => subst_vars; exact h

theorem PhaseInRange.performEvent {e : Event} {s t : State} (h : PhaseInRange s) (hp : performEvent e s = .next t) :
    PhaseInRange t := by
  rcases performEvent_cases hp with ⟨-, rfl⟩ | ⟨x, -, c⟩
  · exact ⟨inPiRange_zero64, inPiRange_zero64⟩
  · exact h.change c

/-- Settles O59: what stays offered has no part in the range. -/
theorem stepKeepsPhaseInRange : Obligations.StepKeepsPhaseInRange := by
  intro s t h hstep
  rcases step_cases s with ⟨-, hs⟩ | ⟨e, rest, -, hs⟩ <;> rw [hs] at hstep
  · cases hstep
    exact h
  · have hoffered : PhaseInRange { s with offered := rest } := h
    exact hoffered.performEvent hstep

end Sys2Proof.Safety
end

section
/-! PROOF. What changes which element of the state: SNAP (O18), the tap RAM (O24), STATE (O49), the pending bits (O51)
and the working configuration (O52). Each is read off the changes a transaction can make. -/

namespace Sys2Proof.Machine

open Sys2Proof.Safety

theorem eventIs_txn {x : Txn} {i : Instr} (h : decode x = i) : eventIs i (.txn x) = true := beq_iff_eq.2 h

/-! SNAP -/

/-- R44: a transaction that is no LO read of a live pair keeps SNAP. -/
theorem Change.snap_cases {i : Instr} {s t : State} (c : Change i s t) :
    (i = .rdNcoPhaseLo ∧ t.snap = hi32 s.phi) ∨ (i = .rdInCountLo ∧ t.snap = hi32 s.inCount) ∨
      (i = .rdOutCountLo ∧ t.snap = hi32 s.outCount) ∨ t.snap = s.snap := by
  cases c with
  | live v hi h =>
    subst h
    rcases hi with ⟨hi, rfl⟩ | ⟨hi, rfl⟩ | ⟨hi, rfl⟩
    · exact .inl ⟨hi, rfl⟩
    · exact .inr (.inl ⟨hi, rfl⟩)
    · exact .inr (.inr (.inl ⟨hi, rfl⟩))
  | beat x q hi hr hn h =>
    obtain ⟨-, -, hsnap, -⟩ := acceptBeat_frame ⟨x, q⟩ s
    exact .inr (.inr (.inr (h ▸ hsnap)))
  | _ => subst_vars; exact .inr (.inr (.inr rfl))

/-- Settles O18: reset is the one event that is no transaction, and it clears SNAP (R330). -/
theorem snapOnlyFromLoReads : Obligations.SnapOnlyFromLoReads := by
  intro e s t h hne
  rcases performEvent_cases h with ⟨rfl, rfl⟩ | ⟨x, rfl, c⟩
  · exact .inl ⟨rfl, rfl⟩
  · rcases c.snap_cases with ⟨hi, hsnap⟩ | ⟨hi, hsnap⟩ | ⟨hi, hsnap⟩ | hsnap
    · exact .inr (.inl ⟨eventIs_txn hi, hsnap⟩)
    · exact .inr (.inr (.inl ⟨eventIs_txn hi, hsnap⟩))
    · exact .inr (.inr (.inr ⟨eventIs_txn hi, hsnap⟩))
    · exact absurd hsnap hne

/-! The tap RAM -/

/-- R120, R222: a transaction that is no write of TAP_DATA_HI outside RUN keeps the tap RAM. -/
theorem Change.taps_cases {i : Instr} {s t : State} (c : Change i s t) :
    (∃ w, i = .wrTapDataHi w ∧ s.runState ≠ .run) ∨ t.taps = s.taps := by
  cases c with
  | tapHi w hi hr ha h => exact .inl ⟨w, hi, hr⟩
  | beat x q hi hr hn h =>
    obtain ⟨htaps, -⟩ := acceptBeat_frame ⟨x, q⟩ s
    exact .inr (h ▸ htaps)
  | _ => subst_vars; exact .inr rfl

/-- Settles O24: reset keeps the tap RAM too (R331). -/
theorem tapsWrittenOnlyByTapDataHi : Obligations.TapsWrittenOnlyByTapDataHi := by
  intro e s t h hne
  rcases performEvent_cases h with ⟨-, rfl⟩ | ⟨x, rfl, c⟩
  · exact absurd rfl hne
  · rcases c.taps_cases with ⟨w, hi, hr⟩ | htaps
    · exact ⟨w, eventIs_txn hi, hr⟩
    · exact absurd htaps hne

/-! STATE -/

/-- What a beat does to STATE and to IRQ_STATUS: it leaves both, or raises (R172, R305). -/
theorem acceptBeat_run_irq (z : Cplx) (s : State) :
    ((acceptBeat z s).runState = s.runState ∧ (acceptBeat z s).irqStatus = s.irqStatus) ∨
      ((acceptBeat z s).runState = .fault ∧ (acceptBeat z s).irqStatus = setFault s.irqStatus) := by
  obtain ⟨-, -, -, -, -, -, -, -, -, -, -, -, ⟨hrun, hirq, -⟩ | ⟨hrun, hirq, -⟩⟩ := acceptBeat_frame z s
  · exact .inl ⟨hrun, hirq⟩
  · exact .inr ⟨hrun, hirq⟩

/-- Settles O49: an input beat is taken only in RUN, so it is from there that one raises. -/
theorem runStateTransitions : Obligations.RunStateTransitions := by
  intro e s t h
  rcases performEvent_cases h with ⟨rfl, rfl⟩ | ⟨x, rfl, c⟩
  · exact .inl ⟨rfl, rfl⟩
  · cases c with
    | startFailed hi hr x hc e => exact .inr (.inl ⟨hi, hr, .inr (e ▸ rfl)⟩)
    | started hi hr inc hc e => exact .inr (.inl ⟨hi, hr, .inl (e ▸ rfl)⟩)
    | eosFailed hi hr hk e => exact .inr (.inr (.inl ⟨hi, hr, .inr (e ▸ rfl)⟩))
    | eosDone hi hr hk e => exact .inr (.inr (.inl ⟨hi, hr, .inl (e ▸ rfl)⟩))
    | aborted hi e => exact .inr (.inr (.inr (.inr (.inl ⟨hi, e ▸ rfl⟩))))
    | beat i q hi hr hn e =>
      subst e
      obtain ⟨hrun, -⟩ := run_of_inReady hr
      rcases acceptBeat_run_irq ⟨i, q⟩ s with ⟨hkeep, -⟩ | ⟨hfault, -⟩
      · exact .inr (.inr (.inr (.inr (.inr hkeep))))
      · exact .inr (.inr (.inr (.inl ⟨by simp [isInputBeat, isInBeat, hi], hrun, hfault⟩)))
    | _ => subst_vars; exact .inr (.inr (.inr (.inr (.inr rfl))))

/-! The pending bits -/

theorem getLsbD_setDone (bits : BitVec 2) (k : Nat) :
    (setDone bits).getLsbD k = (bits.getLsbD k || decide (k = 0)) := by
  have hdone : (0b01#2).getLsbD k = decide (k = 0) := by
    rw [BitVec.getLsbD_one]
    simp
  rw [setDone, BitVec.getLsbD_or, hdone]

theorem getLsbD_setFault (bits : BitVec 2) (k : Nat) :
    (setFault bits).getLsbD k = (bits.getLsbD k || decide (k = 1)) := by
  have hfault : (0b10#2).getLsbD k = decide (k = 1) := by
    rw [BitVec.getLsbD_ofNat, show 2 = 2 ^ 1 from rfl, Nat.testBit_two_pow, ← Bool.decide_and, decide_eq_decide]
    omega
  rw [setFault, BitVec.getLsbD_or, hfault]

/-- Each bit written as 1 is cleared (R110). -/
theorem getLsbD_clearOnes (bits : BitVec 2) (w : U32) {k : Nat} (hk : k < 2) :
    (clearOnes bits (irqBitsOperand w)).getLsbD k = (bits.getLsbD k && !w.getLsbD k) := by
  simp [clearOnes, irqBitsOperand, hk]

/-- What a transaction does to IRQ_STATUS: a write of 1s clears, an EOS that ends a run sets DONE, a fault sets FAULT
(R110, R158, R305). -/
theorem Change.irqStatus_cases {i : Instr} {s t : State} (c : Change i s t) :
    t.irqStatus = s.irqStatus ∨
      (∃ w, i = .wrIrqStatus w ∧ t.irqStatus = clearOnes s.irqStatus (irqBitsOperand w)) ∨
      (runsCommand .eos i = true ∧ s.runState = .run ∧ t.runState = .done ∧ t.irqStatus = setDone s.irqStatus) ∨
      (t.runState = .fault ∧ t.irqStatus = setFault s.irqStatus) := by
  cases c with
  | irqStatus w hi e => exact .inr (.inl ⟨w, hi, e ▸ rfl⟩)
  | startFailed hi hr x hc e => exact .inr (.inr (.inr ⟨e ▸ rfl, e ▸ rfl⟩))
  | eosFailed hi hr hk e => exact .inr (.inr (.inr ⟨e ▸ rfl, e ▸ rfl⟩))
  | eosDone hi hr hk e => exact .inr (.inr (.inl ⟨hi, hr, e ▸ rfl, e ▸ rfl⟩))
  | beat x q hi hr hn e =>
    subst e
    rcases acceptBeat_run_irq ⟨x, q⟩ s with ⟨-, hkeep⟩ | hfault
    · exact .inl hkeep
    · exact .inr (.inr (.inr hfault))
  | _ => subst_vars; exact .inl rfl

/-- Settles O51: DONE and FAULT are each set by the one kind of change that sets them, and only a write of 1s clears. -/
theorem interruptBitsSticky : Obligations.InterruptBitsSticky := by
  intro e s t h
  rcases performEvent_cases h with ⟨rfl, rfl⟩ | ⟨x, rfl, c⟩
  · exact ⟨fun _ hnew => by simp at hnew, fun _ hnew => by simp at hnew, fun _ _ _ _ => .inl rfl⟩
  rcases c.irqStatus_cases with hirq | ⟨w, hi, hirq⟩ | ⟨hi, hr, ht, hirq⟩ | ⟨ht, hirq⟩ <;> rw [hirq]
  · exact ⟨fun hold hnew => Bool.noConfusion (hold.symm.trans hnew),
      fun hold hnew => Bool.noConfusion (hold.symm.trans hnew),
      fun _ _ hold hnew => Bool.noConfusion (hold.symm.trans hnew)⟩
  · refine ⟨fun hold hnew => ?_, fun hold hnew => ?_, fun k hk hold hnew => .inr ⟨w, eventIs_txn hi, ?_⟩⟩
    · rw [getLsbD_clearOnes _ _ Nat.two_pos, hold] at hnew
      simp at hnew
    · rw [getLsbD_clearOnes _ _ Nat.one_lt_two, hold] at hnew
      simp at hnew
    · rw [getLsbD_clearOnes _ _ hk, hold] at hnew
      simpa using hnew
  · refine ⟨fun _ _ => ⟨hi, hr, ht⟩, fun hold hnew => ?_, fun k _ hold hnew => ?_⟩ <;>
      rw [getLsbD_setDone, hold] at hnew <;> simp at hnew
  · refine ⟨fun hold hnew => ?_, fun _ _ => ht, fun k _ hold hnew => ?_⟩ <;>
      rw [getLsbD_setFault, hold] at hnew <;> simp at hnew

/-! The working configuration -/

/-- Settles O52: a START whose checks pass latches (R152); a beat reads what it latched and writes none of it. -/
theorem workingConfigurationLatched : Obligations.WorkingConfigurationLatched := by
  intro e s t h
  rcases performEvent_cases h with ⟨rfl, -⟩ | ⟨x, rfl, c⟩
  · exact .inr (.inl rfl)
  · cases c with
    | started hi hr inc hc e => subst e; exact .inr (.inr ⟨hi, hr, rfl, rfl, rfl, rfl⟩)
    | beat i q hi hr hn e =>
      subst e
      obtain ⟨-, -, -, -, halpha, hinc, hntaps, hm, hrate, hinexact, hgain, -⟩ := acceptBeat_frame ⟨i, q⟩ s
      exact .inl ⟨halpha, hinc, hntaps, hm, hrate, hinexact, hgain⟩
    | _ => subst_vars; exact .inl ⟨rfl, rfl, rfl, rfl, rfl, rfl, rfl⟩

end Sys2Proof.Machine
end

section
/-! PROOF. A beat reads no configuration register and writes none (O53): it commutes with a change of these registers. -/

namespace Sys2Proof.Machine

/-- The state with other values in the configuration registers (R31 to R35). -/
@[simps]
def withConfiguration (fs m : U32) (alpha f : F64) (ntaps : U32) (s : State) : State :=
  { s with sampleRate := fs, decimM := m, dcAlpha := alpha, mixFreq := f, firNtaps := ntaps }

section
variable (fs m : U32) (alpha f : F64) (ntaps : U32)

theorem numericAnomaly_withConfiguration (stage : BitVec 3) (n : U64) (s : State) :
    numericAnomaly stage n (withConfiguration fs m alpha f ntaps s) =
      withConfiguration fs m alpha f ntaps (numericAnomaly stage n s) := rfl

theorem commitBeat_withConfiguration (x y z : Cplx) (d : DemNext) (s : State) :
    commitBeat x y z d (withConfiguration fs m alpha f ntaps s) =
      withConfiguration fs m alpha f ntaps (commitBeat x y z d s) := rfl

theorem demOnKept_withConfiguration (keep : Bool) (s : State) (z : Cplx) :
    demOnKept keep (withConfiguration fs m alpha f ntaps s) z = demOnKept keep s z := rfl

/-- The stages read the working configuration and their own state (R173), which stay. -/
theorem processBeat_withConfiguration (x : Cplx) (n : U64) (s : State) :
    processBeat x n (withConfiguration fs m alpha f ntaps s) =
      withConfiguration fs m alpha f ntaps (processBeat x n s) := by
  simp only [processBeat, numericAnomaly_withConfiguration, commitBeat_withConfiguration, demOnKept_withConfiguration,
    withConfiguration_wAlpha, withConfiguration_dcPx, withConfiguration_dcPy, withConfiguration_phi,
    withConfiguration_taps, withConfiguration_wNtaps, withConfiguration_hist, withConfiguration_decCnt]
  split_ifs
  · rfl
  · rfl
  · rfl
  · split <;> rfl

theorem acceptBeat_withConfiguration (x : Cplx) (s : State) :
    acceptBeat x (withConfiguration fs m alpha f ntaps s) = withConfiguration fs m alpha f ntaps (acceptBeat x s) :=
  processBeat_withConfiguration fs m alpha f ntaps x s.inCount (countBeat s)

end

/-- Settles O53: whether the beat waits or is accepted does not depend on these registers either. -/
theorem beatIgnoresConfiguration : Obligations.BeatIgnoresConfiguration := by
  intro s t i q fs m ntaps alpha f h
  change execInBeat i q s = .next t at h
  change execInBeat i q (withConfiguration fs m alpha f ntaps s) = .next (withConfiguration fs m alpha f ntaps t)
  rcases execInBeat_cases i q s with ⟨hr, e⟩ | ⟨hr, hn, e⟩ | ⟨-, -, e⟩ <;> rw [e] at h <;> cases h
  · have hwaits : inReady (withConfiguration fs m alpha f ntaps s) = false := hr
    exact if_neg (by simp [hwaits])
  · rw [← acceptBeat_withConfiguration]
    exact (if_pos hr).trans (if_pos hn)

end Sys2Proof.Machine
end

section
/-! PROOF. What leaves the block as it is: a write with a partial strobe (O8), and a beat whose port is not ready (O34,
O36); an output beat that is delivered takes one value out of Q. -/

namespace Sys2Proof.Machine

/-! Partial strobes -/

/-- The rows of the partial strobes, the strobes counting up from 0000 (R82 item 1). -/
def partialStrobeWrites (addr : BitVec 12) (w : U32) : List Instr :=
  [.wrBadstrb0000 addr w, .wrBadstrb0001 addr w, .wrBadstrb0010 addr w, .wrBadstrb0011 addr w, .wrBadstrb0100 addr w,
    .wrBadstrb0101 addr w, .wrBadstrb0110 addr w, .wrBadstrb0111 addr w, .wrBadstrb1000 addr w, .wrBadstrb1001 addr w,
    .wrBadstrb1010 addr w, .wrBadstrb1011 addr w, .wrBadstrb1100 addr w, .wrBadstrb1101 addr w, .wrBadstrb1110 addr w]

theorem exec_partialStrobeWrites {addr : BitVec 12} {w : U32} {i : Instr} (hi : i ∈ partialStrobeWrites addr w)
    (s : State) : exec i s = .next (refuseWrite s) := by
  unfold partialStrobeWrites at hi
  fin_cases hi <;> rfl

theorem decodeWrite_mem_partialStrobeWrites {strb : BitVec 4} (h : strb ≠ 0b1111#4) (addr : BitVec 12) (w : U32) :
    decodeWrite addr strb w ∈ partialStrobeWrites addr w := by
  have hlt : strb.toNat < 15 := by bv_omega
  interval_cases hs : strb.toNat <;> simp [decodeWrite, hs, partialStrobeWrites]

/-- Settles O8: a partial strobe is one of the fifteen rows, and each of these is refused. -/
theorem partialStrobeRefused : Obligations.PartialStrobeRefused :=
  ⟨fun addr _ w s h => exec_partialStrobeWrites (decodeWrite_mem_partialStrobeWrites h addr w) s,
    fun _ _ s _ hi => exec_partialStrobeWrites hi s⟩

/-! The ports -/

theorem execInBeat_of_not_inReady {s : State} (h : inReady s = false) (i q : F64) :
    execInBeat i q s = .next (keepOffered (.input (i ++ q)) s) := by
  simp [execInBeat, h]

/-- Settles O34: without IN_READY a beat waits, and IN_READY is the condition (R26). -/
theorem inBeatWaits : Obligations.InBeatWaits := fun s i q h =>
  execInBeat_of_not_inReady (by simpa [inReady] using h) i q

theorem execOutBeat_of_queue_cons {s : State} {v : F64} {rest : List F64} (h : s.queue = v :: rest) :
    execOutBeat s = .next { s with queue := rest, result := .delivered v } := by
  simp [execOutBeat, h]

theorem execOutBeat_of_queue_nil {s : State} (h : s.queue = []) : execOutBeat s = .next (keepOffered .output s) := by
  simp [execOutBeat, h]

/-- Settles O36, by whether Q holds a value. -/
theorem outBeatDelivers : Obligations.OutBeatDelivers := fun _ =>
  ⟨fun _ _ => execOutBeat_of_queue_cons, execOutBeat_of_queue_nil⟩

end Sys2Proof.Machine
end

section
/-! PROOF. The whole schedule (O7): the first event that can be performed is found behind those that wait, and when all
wait the first goes back to its place. -/

namespace Sys2Proof.Machine

theorem nextEvent_of_ready {s : State} {pre post : List Event} {e : Event} (ho : s.offered = pre ++ e :: post)
    (hpre : ∀ x ∈ pre, canPerform s x = false) (he : canPerform s e = true) :
    nextEvent s = some (e, pre ++ post) := by
  have hfirst : firstReady s s.offered = some (e, pre ++ post) := by
    rw [ho]
    exact firstReady_append hpre he
  simp [nextEvent, hfirst]

theorem step_of_offered_nil {s : State} (ho : s.offered = []) : step s = .next s := by
  simp [step, nextEvent, firstReady, ho]

theorem nextEvent_of_none_ready {s : State} {e : Event} {rest : List Event} (ho : s.offered = e :: rest)
    (hwait : ∀ x ∈ s.offered, canPerform s x = false) : nextEvent s = some (e, rest) := by
  have hnone : firstReady s s.offered = none := firstReady_eq_none.2 hwait
  rw [ho] at hnone
  simp [nextEvent, ho, hnone]

/-- The two parts of an input beat make up its data (R80). -/
theorem input_parts_append (data : BitVec 128) : data.extractLsb' 64 64 ++ data.extractLsb' 0 64 = data := by
  rw [BitVec.extractLsb'_append_extractLsb'_eq_extractLsb' (show 64 = 0 + 64 from rfl)]
  exact BitVec.extractLsb'_eq_self

/-- Only a beat can wait, and one that does goes back to the front of what is offered (R67). -/
theorem performEvent_of_not_canPerform {s : State} {e : Event} (h : canPerform s e = false) :
    performEvent e s = .next { s with offered := e :: s.offered } := by
  match e with
  | .txn (.input data) =>
    have hwait := execInBeat_of_not_inReady (s := s) h (data.extractLsb' 64 64) (data.extractLsb' 0 64)
    rwa [input_parts_append] at hwait
  | .txn .output =>
    exact execOutBeat_of_queue_nil (by simpa [canPerform, outAvail] using h)
  | .txn (.bus ..) | .txn (.command _) | .reset => cases h

/-- Settles O7: the first ready event is the next one (R67); when all wait, the step offers the first again. -/
theorem stepTakesFirstReadyEvent : Obligations.StepTakesFirstReadyEvent := by
  refine fun s => ⟨fun pre post e ho hpre he => step_of_nextEvent (nextEvent_of_ready ho hpre he), fun hwait => ?_⟩
  cases ho : s.offered with
  | nil => exact step_of_offered_nil ho
  | cons e rest =>
    have hfirst : canPerform { s with offered := rest } e = false := hwait e (by simp [ho])
    rw [step_of_nextEvent (nextEvent_of_none_ready ho hwait), performEvent_of_not_canPerform hfirst,
      ← ho]

end Sys2Proof.Machine
end

section
/-! PROOF. What a bus read can do, said once, and two consequences: a read outside the list of R65 repeats itself (O19),
and no read changes what a later beat does (O54). -/

namespace Sys2Proof.Machine

open Sys2Proof.Safety

/-- The row of a bus read: the encoder writes it with WE = 0 (R80). -/
def isBusRead (i : Instr) : Bool :=
  match encode i with
  | .bus false _ _ _ => true
  | _ => false

theorem isBusRead_decodeReadAligned (addr : BitVec 12) : isBusRead (decodeReadAligned addr) = true := by
  unfold decodeReadAligned
  split
  case h_33 => split_ifs <;> rfl
  all_goals rfl

theorem isBusRead_decodeRead (addr : BitVec 12) : isBusRead (decodeRead addr) = true := by
  unfold decodeRead
  split
  case h_4 => exact isBusRead_decodeReadAligned addr
  all_goals rfl

/-- The elements a bus read can change (R65), with values for them. -/
@[simps]
def withReadEffects (snap tapRhi : U32) (tapAddr : BitVec 16) (result : Result) (s : State) : State :=
  { s with snap := snap, tapRhi := tapRhi, tapAddr := tapAddr, result := result }

/-- What a bus read does (R65, R100): it answers, from the state without the last result, and no more; or it is one of
the five reads with a side effect, which lies in the elements above. -/
inductive ReadEffect (i : Instr) : Prop where
  | answer (v : State → Result) (h : ∀ s, exec i s = .next { s with result := v s })
      (hv : ∀ s r, v { s with result := r } = v s)
  | sideEffect (hi : i ∈ sideEffectReads)
      (h : ∀ s t, exec i s = .next t → t = withReadEffects t.snap t.tapRhi t.tapAddr t.result s)

/-- R119, taken at an index in range; beyond it the access stops (log entry 10). -/
theorem execRdTapDataLo_frame {s t : State} (h : execRdTapDataLo s = .next t) :
    t = withReadEffects t.snap t.tapRhi t.tapAddr t.result s := by
  unfold execRdTapDataLo at h
  split at h
  · exact eq_of_next h ▸ rfl
  · cases h

/-- In the last case `hi` refutes every row that is no read. -/
theorem readEffect_of_isBusRead {i : Instr} (hi : isBusRead i = true) : ReadEffect i := by
  cases i with
  | rdTapDataLo => exact .sideEffect (by simp [sideEffectReads]) fun _ _ h => execRdTapDataLo_frame h
  | rdTapDataHi => exact .sideEffect (by simp [sideEffectReads]) fun _ _ h => eq_of_next h ▸ rfl
  | rdNcoPhaseLo => exact .sideEffect (by simp [sideEffectReads]) fun _ _ h => eq_of_next h ▸ rfl
  | rdInCountLo => exact .sideEffect (by simp [sideEffectReads]) fun _ _ h => eq_of_next h ▸ rfl
  | rdOutCountLo => exact .sideEffect (by simp [sideEffectReads]) fun _ _ h => eq_of_next h ▸ rfl
  | _ => cases hi <;> exact .answer _ (fun _ => rfl) fun _ _ => rfl

theorem readEffect_decodeRead (addr : BitVec 12) : ReadEffect (decodeRead addr) :=
  readEffect_of_isBusRead (isBusRead_decodeRead addr)

/-- Settles O19: the answer does not depend on the last result, so it is given again. -/
theorem otherReadsAreIdempotent : Obligations.OtherReadsAreIdempotent := by
  intro addr strb w s hno
  cases readEffect_decodeRead addr with
  | answer v h hv => exact ⟨v s, h s, (h _).trans (by simp only [hv])⟩
  | sideEffect hi h => exact absurd hi hno

/-- Whichever read it is, it changes none but these elements. -/
theorem ReadEffect.frame {i : Instr} (hi : ReadEffect i) {s t : State} (h : exec i s = .next t) :
    t = withReadEffects t.snap t.tapRhi t.tapAddr t.result s := by
  cases hi with
  | answer v hv _ => exact eq_of_next ((hv s).symm.trans h) ▸ rfl
  | sideEffect _ hframe => exact hframe s t h

section
variable (snap tapRhi : U32) (tapAddr : BitVec 16)

theorem demOnKept_withReadEffects (r : Result) (keep : Bool) (s : State) (z : Cplx) :
    demOnKept keep (withReadEffects snap tapRhi tapAddr r s) z = demOnKept keep s z := rfl

/-- The stages read none of what a bus read changes (R173), and commit none of it. -/
theorem processBeat_withReadEffects (r : Result) (x : Cplx) (n : U64) (s : State) :
    processBeat x n (withReadEffects snap tapRhi tapAddr r s) =
      withReadEffects snap tapRhi tapAddr r (processBeat x n s) := by
  simp only [processBeat, demOnKept_withReadEffects, withReadEffects_wAlpha, withReadEffects_dcPx,
    withReadEffects_dcPy, withReadEffects_phi, withReadEffects_taps, withReadEffects_wNtaps, withReadEffects_hist,
    withReadEffects_decCnt]
  split_ifs
  case neg => split <;> rfl
  all_goals rfl

/-- The handshake leaves its own result, whatever the last one was (R170). -/
theorem acceptBeat_withReadEffects (r : Result) (x : Cplx) (s : State) :
    acceptBeat x (withReadEffects snap tapRhi tapAddr r s) =
      withReadEffects snap tapRhi tapAddr .accepted (acceptBeat x s) :=
  processBeat_withReadEffects snap tapRhi tapAddr .accepted x s.inCount (countBeat s)

/-- A beat after a change of these elements does what it does without, and leaves the first three (R75). -/
theorem execInBeat_withReadEffects {r : Result} {i q : F64} {s u : State}
    (h : execInBeat i q (withReadEffects snap tapRhi tapAddr r s) = .next u) :
    ∃ v, execInBeat i q s = .next v ∧ u = withReadEffects snap tapRhi tapAddr u.result v := by
  rcases execInBeat_cases i q (withReadEffects snap tapRhi tapAddr r s) with ⟨hr, e⟩ | ⟨hr, hn, e⟩ | ⟨-, -, e⟩ <;>
    rw [e] at h <;> cases h
  · have hwait : inReady s = false := hr
    exact ⟨_, execInBeat_of_not_inReady hwait i q, rfl⟩
  · refine ⟨acceptBeat ⟨i, q⟩ s, (if_pos hr).trans (if_pos hn), ?_⟩
    rw [acceptBeat_withReadEffects]
    rfl

end

/-- Settles O54: the read leaves the state with its own effects, through which the beat passes. -/
theorem readsBetweenBeatsDoNotMatter : Obligations.ReadsBetweenBeatsDoNotMatter := by
  intro addr strb w s t u i q hread hbeat
  rw [(readEffect_decodeRead addr).frame hread] at hbeat
  exact execInBeat_withReadEffects _ _ _ hbeat

end Sys2Proof.Machine
end

section
/-! PROOF. From a sound state nothing stops the block (O58): the model's one stop is a tap index out of range, and
TAP_ADDR and W_NTAPS are in range. -/

namespace Sys2Proof.Safety

open Sys2Proof.Machine

/-- Every command answers, in any state (R105). -/
theorem exec_command_answers (c : Command) (s : State) : ∃ t, exec c.toInstr s = .next t := by
  cases c with
  | start =>
    rcases execStart_cases s with ⟨-, e⟩ | ⟨-, _, -, e⟩ | ⟨-, _, -, e⟩
    · exact ⟨_, e⟩
    · exact ⟨_, e⟩
    · exact ⟨_, e⟩
  | eos => rcases execEos_cases s with ⟨-, e⟩ | ⟨-, -, e⟩ | ⟨-, -, e⟩ <;> exact ⟨_, e⟩
  | _ => exact ⟨_, rfl⟩

theorem execOutBeat_answers (s : State) : ∃ t, execOutBeat s = .next t := by
  cases hq : s.queue with
  | nil => exact ⟨_, execOutBeat_of_queue_nil hq⟩
  | cons v rest => exact ⟨_, execOutBeat_of_queue_cons hq⟩

theorem execWrTapAddr_answers (w : U32) (s : State) : ∃ t, execWrTapAddr w s = .next t := by
  unfold execWrTapAddr
  split_ifs <;> exact ⟨_, rfl⟩

theorem execWrTapDataLo_answers (w : U32) (s : State) : ∃ t, execWrTapDataLo w s = .next t := by
  unfold execWrTapDataLo
  split_ifs <;> exact ⟨_, rfl⟩

/-! The three rows that can stop -/

theorem Inv.execRdTapDataLo_answers {s : State} (h : Inv s) : ∃ t, execRdTapDataLo s = .next t :=
  ⟨_, if_pos h.tapAddrInRange⟩

theorem Inv.execWrTapDataHi_answers {s : State} (h : Inv s) (w : U32) : ∃ t, execWrTapDataHi w s = .next t := by
  unfold execWrTapDataHi
  rw [if_pos h.tapAddrInRange]
  split_ifs <;> exact ⟨_, rfl⟩

theorem Inv.execInBeat_answers {s : State} (h : Inv s) (i q : F64) : ∃ t, execInBeat i q s = .next t := by
  rcases execInBeat_cases i q s with ⟨-, e⟩ | ⟨-, -, e⟩ | ⟨-, hn, -⟩
  · exact ⟨_, e⟩
  · exact ⟨_, e⟩
  · exact absurd h.ntapsFits (Nat.not_le_of_lt hn)

theorem Inv.exec_answers {s : State} (h : Inv s) (i : Instr) : ∃ t, exec i s = .next t := by
  cases i with
  | rdTapDataLo => exact h.execRdTapDataLo_answers
  | wrTapDataHi w => exact h.execWrTapDataHi_answers w
  | inBeat i q => exact h.execInBeat_answers i q
  | outBeat => exact execOutBeat_answers s
  | wrTapAddr w => exact execWrTapAddr_answers w s
  | wrTapDataLo w => exact execWrTapDataLo_answers w s
  | wrCmd w =>
    obtain ⟨t, ht⟩ := exec_command_answers (decodeCommand w) s
    exact ⟨t, (execWrCmd_eq w s).trans ht⟩
  | start => exact exec_command_answers .start s
  | eos => exact exec_command_answers .eos s
  | _ => exact ⟨_, rfl⟩

theorem Inv.performEvent_answers {s : State} (h : Inv s) (e : Event) : ∃ t, Machine.performEvent e s = .next t := by
  cases e with
  | txn x => exact h.exec_answers (decode x)
  | reset => exact ⟨_, rfl⟩

/-- Settles O58: what stays offered has no part in the invariant. -/
theorem soundStateNeverStops : Obligations.SoundStateNeverStops := by
  intro s h
  rcases step_cases s with ⟨-, hs⟩ | ⟨e, rest, -, hs⟩ <;> rw [hs]
  · exact ⟨s, rfl⟩
  · exact (h.withOffered rest).performEvent_answers e

end Sys2Proof.Safety
end

section
/-! PROOF. The fields of a command word, and that decoding a word loses none of it (R86 to R88). -/

namespace Sys2Proof

theorem fields_append (w : U32) : (reservedField w ++ smaskField w) ++ opcField w = w := by
  unfold reservedField smaskField opcField
  rw [BitVec.extractLsb'_append_extractLsb'_eq_extractLsb' (show 13 = 8 + 5 from rfl),
    BitVec.extractLsb'_append_extractLsb'_eq_extractLsb' (show 8 = 0 + 8 from rfl)]
  exact BitVec.extractLsb'_eq_self

/-- R86: in each branch of the decoder the fields it has tested make up the word of its command. -/
theorem word_decodeCommand (w : U32) : (decodeCommand w).word = w := by
  have hw := fields_append w
  unfold decodeCommand
  split_ifs with hr ho hs hopc hopc hopc hopc
  · rfl
  · rwa [not_not.1 hr, ho] at hw
  · rfl
  · rwa [not_not.1 hr, not_not.1 hs, hopc] at hw
  · rwa [not_not.1 hr, not_not.1 hs, hopc] at hw
  · rwa [not_not.1 hr, not_not.1 hs, hopc] at hw
  · rwa [not_not.1 hr, not_not.1 hs, hopc] at hw
  · rfl

theorem decodeCommand_eq_iff {c : Command} (hc : decodeCommand c.word = c) (w : U32) :
    decodeCommand w = c ↔ w = c.word :=
  ⟨fun h => h ▸ (word_decodeCommand w).symm, fun h => h ▸ hc⟩

theorem decodeCommand_eq_start_iff (w : U32) : decodeCommand w = .start ↔ w = 1#32 :=
  decodeCommand_eq_iff rfl w

theorem decodeCommand_eq_eos_iff (w : U32) : decodeCommand w = .eos ↔ w = 2#32 :=
  decodeCommand_eq_iff rfl w

/-- R88: what makes a word illegal, by its fields. -/
theorem illegalWord_iff (w : U32) :
    illegalWord w = true ↔
      5 ≤ (opcField w).toNat ∨ reservedField w ≠ 0#19 ∨ ((opcField w).toNat ≤ 3 ∧ smaskField w ≠ 0#5) := by
  have hreserved : reservedField w ≠ 0#19 ↔ 2 ^ 13 ≤ w.toNat := by
    rw [ne_eq, ← BitVec.toNat_inj, reservedField_toNat, BitVec.toNat_ofNat]
    omega
  have hsmask : smaskField w ≠ 0#5 ↔ w.toNat / 256 % 32 ≠ 0 := by
    rw [ne_eq, ← BitVec.toNat_inj, smaskField_toNat, BitVec.toNat_ofNat, Nat.zero_mod]
  rw [hreserved, hsmask, opcField_toNat]
  simp [illegalWord, or_assoc]

/-- R88: no legal word decodes to the illegal command. -/
theorem illegalWord_of_decodeCommand {w v : U32} (h : decodeCommand w = .illegal v) : illegalWord v = true := by
  obtain rfl : v = w := (congrArg Command.word h).symm.trans (word_decodeCommand w)
  rw [illegalWord_iff]
  unfold decodeCommand at h
  split_ifs at h with hr ho hs h0 h1 h2 h3
  · exact .inr (.inl hr)
  · by_cases hopc : 5 ≤ (opcField v).toNat
    · exact .inl hopc
    · exact .inr (.inr ⟨by bv_omega, hs⟩)
  · exact .inl (by bv_omega)

theorem decodeCommand_eq_illegal_iff (w : U32) : decodeCommand w = .illegal w ↔ illegalWord w = true :=
  ⟨illegalWord_of_decodeCommand, decodeCommand_illegal⟩

end Sys2Proof
end

section
/-! PROOF. The encoder and the decoder undo each other (O1, O2). -/

namespace Sys2Proof

/-- Settles O1, by the model's lemma for each row whose operand is read back; the others have a fixed key or fixed
strobes, and decode by evaluation. -/
theorem decodeEncodeAgree : Obligations.DecodeEncodeAgree := by
  intro i h
  cases i with
  | rdMisaligned1 a => exact Laws.RoundTrip.rdMisaligned1 a h
  | rdMisaligned2 a => exact Laws.RoundTrip.rdMisaligned2 a h
  | rdMisaligned3 a => exact Laws.RoundTrip.rdMisaligned3 a h
  | wrMisaligned1 a w => exact Laws.RoundTrip.wrMisaligned1 a w h
  | wrMisaligned2 a w => exact Laws.RoundTrip.wrMisaligned2 a w h
  | wrMisaligned3 a w => exact Laws.RoundTrip.wrMisaligned3 a w h
  | rdUnmappedHiB7 a => exact Laws.RoundTrip.rdUnmappedHiB7 a h
  | rdUnmappedHiB8 a => exact Laws.RoundTrip.rdUnmappedHiB8 a h
  | rdUnmappedHiB9 a => exact Laws.RoundTrip.rdUnmappedHiB9 a h
  | rdUnmappedHiB10 a => exact Laws.RoundTrip.rdUnmappedHiB10 a h
  | rdUnmappedHiB11 a => exact Laws.RoundTrip.rdUnmappedHiB11 a h
  | wrUnmappedHiB7 a w => exact Laws.RoundTrip.wrUnmappedHiB7 a w h
  | wrUnmappedHiB8 a w => exact Laws.RoundTrip.wrUnmappedHiB8 a w h
  | wrUnmappedHiB9 a w => exact Laws.RoundTrip.wrUnmappedHiB9 a w h
  | wrUnmappedHiB10 a w => exact Laws.RoundTrip.wrUnmappedHiB10 a w h
  | wrUnmappedHiB11 a w => exact Laws.RoundTrip.wrUnmappedHiB11 a w h
  | stageReset m => exact Laws.RoundTrip.stageReset m h
  | cmdIllegal w => exact Laws.RoundTrip.cmdIllegal w h
  | inBeat i q => exact Laws.RoundTrip.inBeat i q h
  | _ => rfl

/-! The other direction -/

/-- The aligned offsets below 0x080, where every row has one fixed key, are 32. -/
theorem exists_lowOffset {addr : BitVec 12} (h4 : addr.toNat % 4 = 0) (hlow : addr.toNat < 0x080) :
    ∃ k : Fin 32, addr = BitVec.ofNat 12 (4 * k) := by
  refine ⟨⟨addr.toNat / 4, by omega⟩, BitVec.eq_of_toNat_eq ?_⟩
  simp only [BitVec.toNat_ofNat]
  omega

/-- R82: the places of an offset: misaligned by 1, 2 or 3, one with a fixed key, or above every fixed key. -/
theorem offset_cases (addr : BitVec 12) :
    addr.toNat % 4 = 1 ∨ addr.toNat % 4 = 2 ∨ addr.toNat % 4 = 3 ∨
      (∃ k : Fin 32, addr = BitVec.ofNat 12 (4 * k)) ∨ (addr.toNat % 4 = 0 ∧ 0x080 ≤ addr.toNat) := by
  by_cases h4 : addr.toNat % 4 = 0
  · by_cases hlow : addr.toNat < 0x080
    · exact .inr (.inr (.inr (.inl (exists_lowOffset h4 hlow))))
    · exact .inr (.inr (.inr (.inr ⟨h4, by omega⟩)))
  · omega

theorem encode_decodeRead (addr : BitVec 12) :
    (decodeRead addr).wellFormed = true ∧ encode (decodeRead addr) = readTxn addr := by
  rcases offset_cases addr with h | h | h | ⟨k, rfl⟩ | ⟨h4, hhigh⟩
  · rw [decodeRead_misaligned1 addr h]; exact ⟨misalignedBy_iff.2 h, rfl⟩
  · rw [decodeRead_misaligned2 addr h]; exact ⟨misalignedBy_iff.2 h, rfl⟩
  · rw [decodeRead_misaligned3 addr h]; exact ⟨misalignedBy_iff.2 h, rfl⟩
  · fin_cases k <;> exact ⟨rfl, rfl⟩
  · rw [decodeRead_high addr h4 hhigh]
    split_ifs <;> exact ⟨alignedIn_iff.2 ⟨⟨h4, by omega⟩, by omega⟩, rfl⟩

theorem encode_decodeWriteFull (addr : BitVec 12) (w : U32) :
    (decodeWriteFull addr w).wellFormed = true ∧ encode (decodeWriteFull addr w) = writeTxn addr w := by
  rcases offset_cases addr with h | h | h | ⟨k, rfl⟩ | ⟨h4, hhigh⟩
  · rw [decodeWriteFull_misaligned1 addr w h]; exact ⟨misalignedBy_iff.2 h, rfl⟩
  · rw [decodeWriteFull_misaligned2 addr w h]; exact ⟨misalignedBy_iff.2 h, rfl⟩
  · rw [decodeWriteFull_misaligned3 addr w h]; exact ⟨misalignedBy_iff.2 h, rfl⟩
  · fin_cases k <;> exact ⟨rfl, rfl⟩
  · rw [decodeWriteFull_high addr w h4 hhigh]
    split_ifs <;> exact ⟨alignedIn_iff.2 ⟨⟨h4, by omega⟩, by omega⟩, rfl⟩

/-- R82 item 1: the fifteen partial strobes have a row each. -/
theorem strobe_cases : ∀ strb : BitVec 4, strb = 0b1111#4 ∨ ∃ n : Fin 15, strb = BitVec.ofNat 4 n := by
  decide

theorem encode_decodeWrite (addr : BitVec 12) (strb : BitVec 4) (w : U32) :
    (decodeWrite addr strb w).wellFormed = true ∧ encode (decodeWrite addr strb w) = .bus true addr strb w := by
  rcases strobe_cases strb with rfl | ⟨n, rfl⟩
  · exact encode_decodeWriteFull addr w
  · fin_cases n <;> exact ⟨rfl, rfl⟩

theorem encode_command (c : Command) : encode c.toInstr = .command c.word := by
  cases c <;> rfl

theorem wellFormed_decodeCommand (w : U32) : (decodeCommand w).toInstr.wellFormed = true := by
  cases hc : decodeCommand w with
  | illegal v => exact illegalWord_of_decodeCommand hc
  | _ => rfl

/-- Settles O2, interface by interface. -/
theorem encodeDecodeAgree : Obligations.EncodeDecodeAgree := by
  intro t
  match t with
  | .bus false addr _ _ => exact encode_decodeRead addr
  | .bus true addr strb w => exact encode_decodeWrite addr strb w
  | .command w =>
    refine ⟨wellFormed_decodeCommand w, (encode_command (decodeCommand w)).trans ?_⟩
    rw [word_decodeCommand]
    rfl
  | .input data => exact ⟨rfl, congrArg Txn.input (Machine.input_parts_append data)⟩
  | .output => exact ⟨rfl, rfl⟩

end Sys2Proof
end

section
/-! PROOF. The BUS rows of the opcode table (O3, O4). No key matches two of them, so the first row a key matches is any
row it matches. -/

namespace Sys2Proof

/-- R82: two rows differ in a bit that both of them fix. -/
theorem busRows_disjoint :
    busRows.Pairwise fun r q => r.pattern &&& q.mask ≠ q.pattern &&& r.mask := by
  decide +kernel

theorem busRowName_of_mem {r : OpcodeRow} {key : BitVec 17} (hr : r ∈ busRows) (hm : key &&& r.mask = r.pattern) :
    busRowName key = some r.name := by
  obtain ⟨pre, post, hsplit⟩ := List.append_of_mem hr
  have hpre : ∀ q ∈ pre, key &&& q.mask ≠ q.pattern := by
    intro q hq hqm
    have hdisjoint := busRows_disjoint
    rw [hsplit, List.pairwise_append] at hdisjoint
    obtain ⟨-, -, hcross⟩ := hdisjoint
    refine hcross q hq r List.mem_cons_self ?_
    rw [← hqm, ← hm, BitVec.and_assoc, BitVec.and_assoc, BitVec.and_comm q.mask]
  have hfind : busRows.find? (fun q => key &&& q.mask == q.pattern) = some r :=
    List.find?_eq_some_iff_append.2 ⟨beq_iff_eq.2 hm, pre, post, hsplit, fun q hq => by simpa using hpre q hq⟩
  rw [busRowName, hfind]
  rfl

/-- Every row fixes WE and the strobes, the upper five bits of the key, so a key matches it by the offset. -/
theorem busRowName_of_offset {name : String} {hi : BitVec 5} {addr m p : BitVec 12}
    (hr : ⟨name, hi ++ p, 0x1F#5 ++ m⟩ ∈ busRows) (hm : addr &&& m = p) : busRowName (hi ++ addr) = some name := by
  refine busRowName_of_mem hr ?_
  change (hi ++ addr) &&& (BitVec.allOnes 5 ++ m) = hi ++ p
  rw [BitVec.and_append, BitVec.and_allOnes, hm]

/-- The mask of a misaligned row. -/
theorem and_three {addr : BitVec 12} {k : Nat} (h : addr.toNat % 4 = k) : addr &&& 0x003#12 = BitVec.ofNat 12 k := by
  apply BitVec.eq_of_toNat_eq
  have hand : addr.toNat &&& 3 = addr.toNat % 4 := Nat.and_two_pow_sub_one_eq_mod addr.toNat 2
  simp only [BitVec.toNat_and, BitVec.toNat_ofNat, Nat.reducePow, Nat.reduceMod, hand, h]
  omega

/-- The mask of an unmapped row leaves free the bits from 2 up to the highest set bit (R84). -/
theorem and_unmappedMask {addr : BitVec 12} {k : Nat} (hk : 2 ≤ k) (h4 : addr.toNat % 4 = 0)
    (hlo : 2 ^ k ≤ addr.toNat) (hhi : addr.toNat < 2 ^ (k + 1)) :
    addr &&& ~~~BitVec.ofNat 12 (2 ^ k - 4) = BitVec.ofNat 12 (2 ^ k) := by
  have htop : addr.getLsbD k = true := Nat.testBit_of_two_pow_le_and_two_pow_add_one_gt hlo hhi
  have habove : ∀ i, k < i → addr.getLsbD i = false := fun i hi =>
    Nat.testBit_lt_two_pow (hhi.trans_le (Nat.pow_le_pow_right (by decide) hi))
  have hlow : ∀ i, i < 2 → addr.getLsbD i = false := fun i hi => by
    have hmod := Nat.testBit_mod_two_pow addr.toNat 2 i
    simpa [← BitVec.testBit_toNat, h4, hi] using hmod.symm
  have hfree : ∀ i, (2 ^ k - 4).testBit i = (decide (i < k) && !decide (i < 2)) := fun i => by
    have h3 : 3 < 2 ^ k := Nat.lt_of_lt_of_le (by decide : 3 < 2 ^ 2) (Nat.pow_le_pow_right (by decide) hk)
    rw [Nat.testBit_two_pow_sub_succ h3, ← Nat.testBit_two_pow_sub_one 2 i]
  apply BitVec.eq_of_getLsbD_eq
  intro i hi
  simp only [BitVec.getLsbD_and, BitVec.getLsbD_not, BitVec.getLsbD_ofNat, hi, hfree, Nat.testBit_two_pow]
  rcases lt_trichotomy i k with hik | rfl | hik
  · by_cases h2 : i < 2
    · simp [hlow i h2, hik.ne']
    · simp [h2, hik, hik.ne']
  · simp [htop]
  · simp [habove i hik, hik.ne]

theorem busRowName_of_unmapped {name : String} {hi : BitVec 5} {addr : BitVec 12} (k : Nat)
    (hr : ⟨name, hi ++ BitVec.ofNat 12 (2 ^ k), 0x1F#5 ++ ~~~BitVec.ofNat 12 (2 ^ k - 4)⟩ ∈ busRows)
    (h4 : addr.toNat % 4 = 0) (hlo : 2 ^ k ≤ addr.toNat) (hhi : addr.toNat < 2 ^ (k + 1)) (hk : 2 ≤ k := by decide) :
    busRowName (hi ++ addr) = some name :=
  busRowName_of_offset hr (and_unmappedMask hk h4 hlo hhi)

theorem busRowName_read (addr : BitVec 12) :
    busRowName ((0#1 ++ 0xF#4) ++ addr) = some (decodeRead addr).mnemonic := by
  rcases offset_cases addr with h | h | h | ⟨k, rfl⟩ | ⟨h4, hhigh⟩
  · rw [decodeRead_misaligned1 addr h]
    exact busRowName_of_offset (by simp [busRows, Instr.mnemonic]) (and_three h)
  · rw [decodeRead_misaligned2 addr h]
    exact busRowName_of_offset (by simp [busRows, Instr.mnemonic]) (and_three h)
  · rw [decodeRead_misaligned3 addr h]
    exact busRowName_of_offset (by simp [busRows, Instr.mnemonic]) (and_three h)
  · fin_cases k <;> rfl
  · rw [decodeRead_high addr h4 hhigh]
    split_ifs
    · exact busRowName_of_unmapped 7 (by simp [busRows, Instr.mnemonic]) h4 (by omega) (by omega)
    · exact busRowName_of_unmapped 8 (by simp [busRows, Instr.mnemonic]) h4 (by omega) (by omega)
    · exact busRowName_of_unmapped 9 (by simp [busRows, Instr.mnemonic]) h4 (by omega) (by omega)
    · exact busRowName_of_unmapped 10 (by simp [busRows, Instr.mnemonic]) h4 (by omega) (by omega)
    · exact busRowName_of_unmapped 11 (by simp [busRows, Instr.mnemonic]) h4 (by omega) (by omega)

theorem busRowName_writeFull (addr : BitVec 12) (w : U32) :
    busRowName ((1#1 ++ 0xF#4) ++ addr) = some (decodeWriteFull addr w).mnemonic := by
  rcases offset_cases addr with h | h | h | ⟨k, rfl⟩ | ⟨h4, hhigh⟩
  · rw [decodeWriteFull_misaligned1 addr w h]
    exact busRowName_of_offset (by simp [busRows, Instr.mnemonic]) (and_three h)
  · rw [decodeWriteFull_misaligned2 addr w h]
    exact busRowName_of_offset (by simp [busRows, Instr.mnemonic]) (and_three h)
  · rw [decodeWriteFull_misaligned3 addr w h]
    exact busRowName_of_offset (by simp [busRows, Instr.mnemonic]) (and_three h)
  · fin_cases k <;> rfl
  · rw [decodeWriteFull_high addr w h4 hhigh]
    split_ifs
    · exact busRowName_of_unmapped 7 (by simp [busRows, Instr.mnemonic]) h4 (by omega) (by omega)
    · exact busRowName_of_unmapped 8 (by simp [busRows, Instr.mnemonic]) h4 (by omega) (by omega)
    · exact busRowName_of_unmapped 9 (by simp [busRows, Instr.mnemonic]) h4 (by omega) (by omega)
    · exact busRowName_of_unmapped 10 (by simp [busRows, Instr.mnemonic]) h4 (by omega) (by omega)
    · exact busRowName_of_unmapped 11 (by simp [busRows, Instr.mnemonic]) h4 (by omega) (by omega)

theorem busRowName_write (addr : BitVec 12) (strb : BitVec 4) (w : U32) :
    busRowName ((1#1 ++ strb) ++ addr) = some (decodeWrite addr strb w).mnemonic := by
  rcases strobe_cases strb with rfl | ⟨n, rfl⟩
  · exact busRowName_writeFull addr w
  · fin_cases n <;>
      exact busRowName_of_offset (m := 0#12) (by simp [busRows, Instr.mnemonic, decodeWrite]) BitVec.and_zero

/-- Settles O3: a transaction with a key is a read or a write. -/
theorem decodeFollowsTheTable : Obligations.DecodeFollowsTheTable := by
  intro t key hkey
  match t with
  | .bus false addr _ _ => cases hkey; exact busRowName_read addr
  | .bus true addr strb w => cases hkey; exact busRowName_write addr strb w
  | .command _ | .input _ | .output => cases hkey

/-- Settles O4: every word is closed. -/
theorem wordsDecode : Obligations.WordsDecode :=
  ⟨rfl, rfl, rfl, rfl, rfl, rfl, rfl, rfl, rfl, rfl, rfl, rfl, rfl, rfl⟩

end Sys2Proof
end

section
/-! PROOF. Illegal command words (O5), and the rows that R83 and R84 refuse at any time (O9, O10). -/

namespace Sys2Proof.Machine

open Sys2Proof.Safety

/-- R88: the write of CMD and the row of the word refuse alike. -/
theorem exec_wrCmd_of_illegal {w : U32} (h : decodeCommand w = .illegal w) (s : State) :
    exec (.wrCmd w) s = .next (refuseWrite s) := by
  refine (execWrCmd_eq w s).trans ?_
  rw [h]
  rfl

/-- Settles O5: `illegalWord` is what R88 says of the fields, and the decoder follows it. -/
theorem illegalCommandWordRefused : Obligations.IllegalCommandWordRefused := fun w s =>
  ⟨(decodeCommand_eq_illegal_iff w).trans (illegalWord_iff w), fun h => ⟨exec_wrCmd_of_illegal h s, rfl⟩⟩

/-- The rows of R83: reads, and full-strobe writes. -/
def misalignedRows (addr : BitVec 12) (w : U32) : Bool → List Instr
  | false => [.rdMisaligned1 addr, .rdMisaligned2 addr, .rdMisaligned3 addr]
  | true => [.wrMisaligned1 addr w, .wrMisaligned2 addr w, .wrMisaligned3 addr w]

theorem decode_mem_misalignedRows {addr : BitVec 12} (h : addr.toNat % 4 ≠ 0) (w : U32) (we : Bool) :
    decode (.bus we addr 0b1111#4 w) ∈ misalignedRows addr w we := by
  have hplace : addr.toNat % 4 = 1 ∨ addr.toNat % 4 = 2 ∨ addr.toNat % 4 = 3 := by omega
  cases we with
  | false =>
    change decodeRead addr ∈ _
    rcases hplace with h | h | h
    · simp [decodeRead_misaligned1 addr h, misalignedRows]
    · simp [decodeRead_misaligned2 addr h, misalignedRows]
    · simp [decodeRead_misaligned3 addr h, misalignedRows]
  | true =>
    change decodeWriteFull addr w ∈ _
    rcases hplace with h | h | h
    · simp [decodeWriteFull_misaligned1 addr w h, misalignedRows]
    · simp [decodeWriteFull_misaligned2 addr w h, misalignedRows]
    · simp [decodeWriteFull_misaligned3 addr w h, misalignedRows]

theorem exec_misalignedRows {addr : BitVec 12} {w : U32} {we : Bool} {i : Instr} (hi : i ∈ misalignedRows addr w we)
    (s : State) : exec i s = .next (refused we s) := by
  cases we <;> unfold misalignedRows at hi <;> fin_cases hi <;> rfl

/-- Settles O9; a read decodes alike with any strobes (R63). -/
theorem misalignedRefused : Obligations.MisalignedRefused := by
  refine ⟨fun addr strb w s h => ?_, fun addr w s =>
    ⟨fun i hi => exec_misalignedRows (we := false) (w := w) hi s, fun i hi => exec_misalignedRows (we := true) hi s⟩⟩
  have h4 : addr.toNat % 4 ≠ 0 := by
    rw [ne_eq, ← BitVec.toNat_inj, BitVec.extractLsb'_toNat] at h
    simpa using h
  exact ⟨exec_misalignedRows (decode_mem_misalignedRows h4 w false) s,
    exec_misalignedRows (decode_mem_misalignedRows h4 w true) s⟩

/-- The rows of R84: reads, and full-strobe writes. -/
def unmappedRows (addr : BitVec 12) (w : U32) : Bool → List Instr
  | false => [.rdUnmapped014, .rdUnmapped074, .rdUnmappedHiB7 addr, .rdUnmappedHiB8 addr, .rdUnmappedHiB9 addr,
      .rdUnmappedHiB10 addr, .rdUnmappedHiB11 addr]
  | true => [.wrUnmapped014 w, .wrUnmapped074 w, .wrUnmappedHiB7 addr w, .wrUnmappedHiB8 addr w,
      .wrUnmappedHiB9 addr w, .wrUnmappedHiB10 addr w, .wrUnmappedHiB11 addr w]

/-- The aligned offsets without a register (R84). -/
def IsUnmapped (addr : BitVec 12) : Prop := addr = 0x014#12 ∨ addr = 0x074#12 ∨ 0x080 ≤ addr.toNat

theorem decode_mem_unmappedRows {addr : BitVec 12} (h4 : addr.toNat % 4 = 0) (h : IsUnmapped addr) (w : U32)
    (we : Bool) : decode (.bus we addr 0b1111#4 w) ∈ unmappedRows addr w we := by
  rcases h with rfl | rfl | hhigh
  · cases we <;> exact .head _
  · cases we <;> exact .tail _ (.head _)
  · cases we with
    | false =>
      change decodeRead addr ∈ _
      rw [decodeRead_high addr h4 hhigh]
      split_ifs <;> simp [unmappedRows]
    | true =>
      change decodeWriteFull addr w ∈ _
      rw [decodeWriteFull_high addr w h4 hhigh]
      split_ifs <;> simp [unmappedRows]

theorem exec_unmappedRows {addr : BitVec 12} {w : U32} {we : Bool} {i : Instr} (hi : i ∈ unmappedRows addr w we)
    (s : State) : exec i s = .next (refused we s) := by
  cases we <;> unfold unmappedRows at hi <;> fin_cases hi <;> rfl

/-- Settles O10, as O9. -/
theorem unmappedRefused : Obligations.UnmappedRefused := by
  refine ⟨fun addr strb w s h4 h => ?_, fun addr w s =>
    ⟨fun i hi => exec_unmappedRows (we := false) (w := w) hi s, fun i hi => exec_unmappedRows (we := true) hi s⟩⟩
  exact ⟨exec_unmappedRows (decode_mem_unmappedRows h4 h w false) s,
    exec_unmappedRows (decode_mem_unmappedRows h4 h w true) s⟩

end Sys2Proof.Machine
end

section
/-! PROOF. The table of R302 (O12): the rows of each kind of register, then the condition of the table at each kind. -/

namespace Sys2Proof.Machine

open Sys2Proof.Safety

theorem mem_rows_of_offset {f : BitVec 12 → Instr} {offsets : List Nat} {rows : List Instr}
    (hrows : offsets.map (fun n => f (BitVec.ofNat 12 n)) = rows) {addr : BitVec 12} (h : addr.toNat ∈ offsets) :
    f addr ∈ rows :=
  hrows ▸ List.mem_map.2 ⟨addr.toNat, h, by simp⟩

theorem isUnmapped_low : ∀ k : Fin 32, (BitVec.ofNat 12 (4 * k)).toNat ∉ mappedOffsets →
    IsUnmapped (BitVec.ofNat 12 (4 * k)) := by
  unfold IsUnmapped
  decide

/-- R84: an aligned offset without a register is one of the two gaps, or from 0x080 up. -/
theorem isUnmapped_of_not_mem {addr : BitVec 12} (h4 : addr.toNat % 4 = 0) (h : addr.toNat ∉ mappedOffsets) :
    IsUnmapped addr := by
  by_cases hlow : addr.toNat < 0x080
  · obtain ⟨k, rfl⟩ := exists_lowOffset h4 hlow
    exact isUnmapped_low k h
  · exact .inr (.inr (by omega))

/-! Reads -/

/-- The reads of the registers but TAP_DATA_LO, in the order of their offsets. -/
def plainReads : List Instr :=
  [.rdId, .rdParams, .rdCmd, .rdStatus, .rdErrCause, .rdErrIndexLo, .rdErrIndexHi, .rdIrqStatus, .rdIrqEnable,
    .rdSampleRate, .rdDecimM, .rdDcAlphaLo, .rdDcAlphaHi, .rdMixFreqLo, .rdMixFreqHi, .rdFirNtaps, .rdTapAddr,
    .rdTapDataHi, .rdNcoIncLo, .rdNcoIncHi, .rdNcoPhaseLo, .rdNcoPhaseHi, .rdInCountLo, .rdInCountHi, .rdOutCountLo,
    .rdOutCountHi, .rdOutRate, .rdFirGainLo, .rdFirGainHi]

theorem decodeRead_mem_plainReads {addr : BitVec 12} (h : addr.toNat ∈ mappedOffsets.erase 0x048) :
    decodeRead addr ∈ plainReads :=
  mem_rows_of_offset rfl h

theorem plainReads_okay {i : Instr} (hi : i ∈ plainReads) {s t : State} (h : exec i s = .next t) :
    isSlverr t.result = false := by
  unfold plainReads at hi
  fin_cases hi <;> exact eq_of_next h ▸ rfl

theorem execRdTapDataLo_okay {s t : State} (h : execRdTapDataLo s = .next t) : isSlverr t.result = false := by
  unfold execRdTapDataLo at h
  split at h
  · exact eq_of_next h ▸ rfl
  · cases h

theorem mappedRead_okay {addr : BitVec 12} (hm : addr.toNat ∈ mappedOffsets) {s t : State}
    (h : exec (decodeRead addr) s = .next t) : isSlverr t.result = false := by
  by_cases htap : addr.toNat = 0x048
  · obtain rfl : addr = 0x048#12 := BitVec.eq_of_toNat_eq htap
    exact execRdTapDataLo_okay h
  · exact plainReads_okay (decodeRead_mem_plainReads ((List.mem_erase_of_ne htap).2 hm)) h

/-! Full-strobe writes -/

/-- The rows of R101. -/
def readOnlyWrites (w : U32) : List Instr :=
  [.wrRoId w, .wrRoParams w, .wrRoStatus w, .wrRoErrCause w, .wrRoErrIndexLo w, .wrRoErrIndexHi w, .wrRoNcoIncLo w,
    .wrRoNcoIncHi w, .wrRoNcoPhaseLo w, .wrRoNcoPhaseHi w, .wrRoInCountLo w, .wrRoInCountHi w, .wrRoOutCountLo w,
    .wrRoOutCountHi w, .wrRoOutRate w, .wrRoFirGainLo w, .wrRoFirGainHi w]

theorem decodeWriteFull_mem_readOnlyWrites {addr : BitVec 12} (h : addr.toNat ∈ readOnlyOffsets) (w : U32) :
    decodeWriteFull addr w ∈ readOnlyWrites w :=
  mem_rows_of_offset (f := (decodeWriteFull · w)) rfl h

theorem exec_readOnlyWrites {w : U32} {i : Instr} (hi : i ∈ readOnlyWrites w) (s : State) :
    exec i s = .next (refuseWrite s) := by
  unfold readOnlyWrites at hi
  fin_cases hi <;> rfl

/-- The offsets of the four registers whose writes R302 refuses in some states or for some data. -/
def guardedOffsets : List Nat := [0x008, 0x044, 0x048, 0x04C]

/-- The offsets whose full-strobe writes are never refused. -/
def plainWriteOffsets : List Nat := mappedOffsets.filter (· ∉ readOnlyOffsets ++ guardedOffsets)

/-- The rows of these offsets (R110, R113, R132 to R144). -/
def plainWrites (w : U32) : List Instr :=
  [.wrIrqStatus w, .wrIrqEnable w, .wrSampleRate w, .wrDecimM w, .wrDcAlphaLo w, .wrDcAlphaHi w, .wrMixFreqLo w,
    .wrMixFreqHi w, .wrFirNtaps w]

theorem decodeWriteFull_mem_plainWrites {addr : BitVec 12} (h : addr.toNat ∈ plainWriteOffsets) (w : U32) :
    decodeWriteFull addr w ∈ plainWrites w :=
  mem_rows_of_offset (f := (decodeWriteFull · w)) rfl h

theorem plainWrites_okay {w : U32} {i : Instr} (hi : i ∈ plainWrites w) {s t : State} (h : exec i s = .next t) :
    isSlverr t.result = false := by
  unfold plainWrites at hi
  fin_cases hi <;> exact eq_of_next h ▸ rfl

/-! The condition and the answer -/

/-- Under `c` the instruction answers SLVERR and changes nothing, and otherwise no answer of it is SLVERR. -/
def RefusedExactlyIf (c : Prop) (we : Bool) (i : Instr) (s : State) : Prop :=
  (c → exec i s = .next (refused we s)) ∧ ∀ t, ¬c → exec i s = .next t → isSlverr t.result = false

section
variable {c : Prop} {we : Bool} {i : Instr} {s : State}

theorem RefusedExactlyIf.of_refused (h : exec i s = .next (refused we s)) (hc : c) : RefusedExactlyIf c we i s :=
  ⟨fun _ => h, fun _ hn => absurd hc hn⟩

theorem RefusedExactlyIf.of_okay (h : ∀ t, exec i s = .next t → isSlverr t.result = false) (hc : ¬c) :
    RefusedExactlyIf c we i s :=
  ⟨fun h' => absurd h' hc, fun t _ => h t⟩

theorem RefusedExactlyIf.congr {c' : Prop} (h : RefusedExactlyIf c we i s) (hc : c' ↔ c) :
    RefusedExactlyIf c' we i s := by
  rwa [propext hc]

theorem RefusedExactlyIf.of_answered {u : State} (h : exec i s = .next u) (hu : isSlverr u.result = false)
    (hc : ¬c) : RefusedExactlyIf c we i s :=
  .of_okay (fun t ht => by rw [h] at ht; exact eq_of_next ht ▸ hu) hc

end

/-- R88, R151: which writes of CMD are refused, by the command of the word. -/
theorem wrCmd_refusedExactlyIf (w : U32) (s : State) :
    RefusedExactlyIf (decodeCommand w = .illegal w ∨ (decodeCommand w = .start ∧ s.runState = .run) ∨
      (decodeCommand w = .eos ∧ s.runState ≠ .run)) true (.wrCmd w) s := by
  have hexec : exec (.wrCmd w) s = exec (decodeCommand w).toInstr s := execWrCmd_eq w s
  cases hc : decodeCommand w with
  | illegal v =>
    obtain rfl : v = w := (congrArg Command.word hc).symm.trans (word_decodeCommand w)
    exact .of_refused (exec_wrCmd_of_illegal hc s) (.inl rfl)
  | start =>
    rw [hc] at hexec
    rcases execStart_cases s with ⟨hr, e⟩ | ⟨hr, _, -, e⟩ | ⟨hr, _, -, e⟩
    · exact .of_refused (hexec.trans e) (.inr (.inl ⟨rfl, hr⟩))
    · exact .of_answered (hexec.trans e) rfl (by simp [hr])
    · exact .of_answered (hexec.trans e) rfl (by simp [hr])
  | eos =>
    rw [hc] at hexec
    rcases execEos_cases s with ⟨hr, e⟩ | ⟨hr, -, e⟩ | ⟨hr, -, e⟩
    · exact .of_refused (hexec.trans e) (.inr (.inr ⟨rfl, hr⟩))
    · exact .of_answered (hexec.trans e) rfl (by simp [hr])
    · exact .of_answered (hexec.trans e) rfl (by simp [hr])
  | nop | abort | stageReset m =>
    rw [hc] at hexec
    exact .of_answered hexec rfl (by simp)

theorem wrTapAddr_refusedExactlyIf (w : U32) (s : State) :
    RefusedExactlyIf (s.runState = .run ∨ s.build.tapDepth ≤ w.toNat % 2 ^ 16) true (.wrTapAddr w) s := by
  have hindex : (tapIndexOperand w).toNat = w.toNat % 2 ^ 16 := BitVec.extractLsb'_toNat ..
  by_cases hr : s.runState = .run
  · exact .of_refused (if_pos hr) (.inl hr)
  · by_cases hw : s.build.tapDepth ≤ (tapIndexOperand w).toNat
    · exact .of_refused ((if_neg hr).trans (if_pos hw)) (.inr (hindex ▸ hw))
    · exact .of_answered ((if_neg hr).trans (if_neg hw)) rfl (not_or.2 ⟨hr, hindex ▸ hw⟩)

theorem wrTapDataLo_refusedExactlyIf (w : U32) (s : State) :
    RefusedExactlyIf (s.runState = .run) true (.wrTapDataLo w) s := by
  by_cases hr : s.runState = .run
  · exact .of_refused (if_pos hr) hr
  · exact .of_answered (if_neg hr) rfl hr

theorem wrTapDataHi_refusedExactlyIf (w : U32) (s : State) :
    RefusedExactlyIf (s.runState = .run) true (.wrTapDataHi w) s := by
  by_cases hr : s.runState = .run
  · exact .of_refused (if_pos hr) hr
  · by_cases ha : s.tapAddr.toNat < s.build.tapDepth
    · exact .of_answered ((if_neg hr).trans (if_pos ha)) rfl hr
    · have hstop : exec (.wrTapDataHi w) s = .fault (.tapIndexOutOfRange s.tapAddr.toNat) :=
        (if_neg hr).trans (if_neg ha)
      exact .of_okay (fun t h => by rw [hstop] at h; cases h) hr

theorem guardedWrite_refusedExactlyIf {addr : BitVec 12} (h : addr.toNat ∈ guardedOffsets) (w : U32) (s : State) :
    RefusedExactlyIf (refusedAccess true addr 0b1111#4 w s) true (decodeWriteFull addr w) s := by
  simp only [guardedOffsets, List.mem_cons, List.not_mem_nil, or_false] at h
  rcases h with h | h | h | h
  · obtain rfl : addr = 0x008#12 := BitVec.eq_of_toNat_eq h
    refine (wrCmd_refusedExactlyIf w s).congr ?_
    rw [decodeCommand_eq_illegal_iff, decodeCommand_eq_start_iff, decodeCommand_eq_eos_iff]
    simp [refusedAccess, mappedOffsets, readOnlyOffsets]
  · obtain rfl : addr = 0x044#12 := BitVec.eq_of_toNat_eq h
    exact (wrTapAddr_refusedExactlyIf w s).congr (by simp [refusedAccess, mappedOffsets, readOnlyOffsets])
  · obtain rfl : addr = 0x048#12 := BitVec.eq_of_toNat_eq h
    exact (wrTapDataLo_refusedExactlyIf w s).congr (by simp [refusedAccess, mappedOffsets, readOnlyOffsets])
  · obtain rfl : addr = 0x04C#12 := BitVec.eq_of_toNat_eq h
    exact (wrTapDataHi_refusedExactlyIf w s).congr (by simp [refusedAccess, mappedOffsets, readOnlyOffsets])

theorem mappedWrite_refusedExactlyIf {addr : BitVec 12} (h4 : addr.toNat % 4 = 0) (hm : addr.toNat ∈ mappedOffsets)
    (w : U32) (s : State) :
    RefusedExactlyIf (refusedAccess true addr 0b1111#4 w s) true (decodeWriteFull addr w) s := by
  by_cases hro : addr.toNat ∈ readOnlyOffsets
  · exact .of_refused (exec_readOnlyWrites (decodeWriteFull_mem_readOnlyWrites hro w) s)
      (.inr (.inr (.inr (.inl ⟨rfl, hro⟩))))
  by_cases hg : addr.toNat ∈ guardedOffsets
  · exact guardedWrite_refusedExactlyIf hg w s
  · refine .of_okay (fun t => plainWrites_okay (decodeWriteFull_mem_plainWrites ?_ w)) ?_
    · simp [plainWriteOffsets, hm, hro, hg]
    · simp only [guardedOffsets, List.mem_cons, List.not_mem_nil, or_false, not_or] at hg
      simp [refusedAccess, h4, hm, hro, hg]

/-- Settles O12: the conditions of R82 in their order, and then the mapped register by its kind. -/
theorem slverrExactly : Obligations.SlverrExactly := by
  intro we addr strb w s
  change RefusedExactlyIf (refusedAccess we addr strb w s) we (decode (.bus we addr strb w)) s
  by_cases hp : we = true ∧ strb ≠ 0b1111#4
  · obtain ⟨rfl, hstrb⟩ := hp
    exact .of_refused (exec_partialStrobeWrites (decodeWrite_mem_partialStrobeWrites hstrb addr w) s)
      (.inl ⟨rfl, hstrb⟩)
  have hfull : decode (.bus we addr strb w) = decode (.bus we addr 0b1111#4 w) := by
    cases we with
    | false => rfl
    | true => rw [not_not.1 fun hstrb => hp ⟨rfl, hstrb⟩]
  rw [hfull]
  by_cases h4 : addr.toNat % 4 = 0
  case neg => exact .of_refused (exec_misalignedRows (decode_mem_misalignedRows h4 w we) s) (.inr (.inl h4))
  by_cases hm : addr.toNat ∈ mappedOffsets
  case neg =>
    exact .of_refused (exec_unmappedRows (decode_mem_unmappedRows h4 (isUnmapped_of_not_mem h4 hm) w we) s)
      (.inr (.inr (.inl hm)))
  cases we with
  | false => exact .of_okay (fun t => mappedRead_okay hm) (by simp [refusedAccess, h4, hm])
  | true =>
    obtain rfl : strb = 0b1111#4 := not_not.1 fun hstrb => hp ⟨rfl, hstrb⟩
    exact mappedWrite_refusedExactlyIf h4 hm w s

end Sys2Proof.Machine
end

section
/-! PROOF. The tap RAM's access registers and the write of CMD (O21, O22, O23, O25), and the writes of R101 (O11). -/

namespace Sys2Proof.Machine

open Sys2Proof.Safety

/-- Settles O23: the write is `tapWrite`, of which Laws/Memory.lean says every byte and every entry. -/
theorem tapDataHiWrite : Obligations.TapDataHiWrite := by
  intro w s haddr
  refine ⟨rfl, fun hrun => if_pos hrun, fun hrun => ?_⟩
  have hexec : exec (.wrTapDataHi w) s =
      .next (answerWrite
        { s with
          taps := tapWrite s.taps s.tapAddr.toNat (pair64 w s.tapWlo)
          tapAddr := nextTapAddr s.build.tapDepth s.tapAddr }) :=
    (if_neg hrun).trans (if_pos haddr)
  exact ⟨_, hexec, fun a => memRead_tapWrite s.taps s.tapAddr.toNat a (pair64 w s.tapWlo),
    fun j => tapRead_tapWrite s.taps s.tapAddr.toNat j (pair64 w s.tapWlo)⟩

/-- Settles O11: the seventeen offsets decode to the rows that `exec_readOnlyWrites` is about. -/
theorem readOnlyWriteRefused : Obligations.ReadOnlyWriteRefused :=
  ⟨fun _ w s h => exec_readOnlyWrites (decodeWriteFull_mem_readOnlyWrites h w) s,
    fun _ s _ hi => exec_readOnlyWrites hi s⟩

/-- R117: the two conditions that refuse the write, in their order. -/
theorem execWrTapAddr_eq (w : U32) (s : State) :
    execWrTapAddr w s =
      .next (if s.runState = .run then refuseWrite s
        else if s.build.tapDepth ≤ (tapIndexOperand w).toNat then refuseWrite s
        else answerWrite { s with tapAddr := tapIndexOperand w }) := by
  rw [execWrTapAddr, apply_ite Host.Outcome.next, apply_ite Host.Outcome.next]

theorem execWrTapDataLo_eq (w : U32) (s : State) :
    execWrTapDataLo w s =
      .next (if s.runState = .run then refuseWrite s else answerWrite { s with tapWlo := w }) := by
  rw [execWrTapDataLo, apply_ite Host.Outcome.next]

/-- Settles O21. -/
theorem tapAddressAndLowWrites : Obligations.TapAddressAndLowWrites := fun w s =>
  ⟨rfl, rfl, execWrTapAddr_eq w s, execWrTapDataLo_eq w s⟩

/-- Settles O22: only the LO read needs TAP_ADDR in range, to find its entry. -/
theorem tapDataReads : Obligations.TapDataReads :=
  ⟨fun _ _ => ⟨rfl, rfl⟩, fun _ haddr => ⟨if_pos haddr, rfl⟩⟩

/-- Settles O25: every command answers, and the write of CMD is the command of its word. -/
theorem cmdWriteRunsCommand : Obligations.CmdWriteRunsCommand := by
  intro w s
  obtain ⟨t, ht⟩ := exec_command_answers (decodeCommand w) s
  exact ⟨rfl, t, (execWrCmd_eq w s).trans ht, ht⟩

end Sys2Proof.Machine
end

section
/-! PROOF. The words that STATUS and ERR_CAUSE read as, field by field (O14, O15). -/

namespace Sys2Proof.Machine

/-! STATUS (R106): the reserved bits, then the fields from OUT_LEVEL down -/

theorem statusWord_reserved_high (s : State) : (statusWord s).extractLsb' 16 16 = 0#16 := by
  rw [statusWord]
  iterate 6 rw [BitVec.extractLsb'_append_eq_of_le (by decide)]
  exact BitVec.extractLsb'_append_eq_left

theorem statusWord_outLevel (s : State) : (statusWord s).extractLsb' 8 8 = BitVec.ofNat 8 s.queue.length := by
  rw [statusWord]
  iterate 6 rw [BitVec.extractLsb'_append_eq_of_le (by decide)]
  exact BitVec.extractLsb'_append_eq_right

theorem statusWord_reserved_low (s : State) : (statusWord s).extractLsb' 6 2 = 0#2 := by
  rw [statusWord]
  iterate 5 rw [BitVec.extractLsb'_append_eq_of_le (by decide)]
  exact BitVec.extractLsb'_append_eq_right

theorem statusWord_irq (s : State) : (statusWord s).getLsbD 5 = irqLevel s := by
  simp only [statusWord, BitVec.getLsbD_append]
  simp

theorem statusWord_rateInexact (s : State) : (statusWord s).getLsbD 4 = s.rateInexact := by
  simp only [statusWord, BitVec.getLsbD_append]
  simp

theorem statusWord_inReady (s : State) : (statusWord s).getLsbD 3 = inReady s := by
  simp only [statusWord, BitVec.getLsbD_append]
  simp

theorem statusWord_outAvail (s : State) : (statusWord s).getLsbD 2 = outAvail s := by
  simp only [statusWord, BitVec.getLsbD_append]
  simp

theorem statusWord_state (s : State) : (statusWord s).extractLsb' 0 2 = stateCode s.runState :=
  BitVec.extractLsb'_append_eq_right

/-- Settles O14: the word is `statusWord`, taken apart above. -/
theorem statusRead : Obligations.StatusRead := by
  refine ⟨fun _ _ => rfl, fun s => ⟨statusWord s, rfl, statusWord_reserved_high s, statusWord_outLevel s,
    statusWord_reserved_low s, statusWord_irq s, statusWord_rateInexact s, ?_, statusWord_outAvail s, ?_⟩⟩
  · rw [statusWord_inReady, inReady, Bool.decide_and]
  · rw [statusWord_state]
    cases s.runState <;> rfl

/-! ERR_CAUSE (R107, R301) -/

theorem toNat_append_eq_add {m n : Nat} (x : BitVec m) (y : BitVec n) :
    (x ++ y).toNat = x.toNat * 2 ^ n + y.toNat := by
  rw [BitVec.toNat_append, ← Nat.shiftLeft_add_eq_or_of_lt y.isLt, Nat.shiftLeft_eq]

theorem errCauseWord_toNat (e : ErrCause) :
    (errCauseWord e).toNat = e.cause.toNat + e.detail.toNat * 2 ^ 8 + e.stage.toNat * 2 ^ 16 := by
  simp only [errCauseWord, toNat_append_eq_add, BitVec.toNat_ofNat]
  omega

/-- Settles O15. -/
theorem errorReads : Obligations.ErrorReads :=
  ⟨fun _ _ => ⟨rfl, rfl, rfl⟩, fun s => ⟨rfl, rfl, rfl, errCauseWord_toNat s.errCause⟩⟩

end Sys2Proof.Machine
end

section
/-! PROOF. The reads and writes that return or store one register (O13, O16, O17, O20). Each offset has one fixed key,
so it decodes by evaluation, and each arm of `exec` is one `answerRead`, `answerLive` or `answerWrite`. -/

namespace Sys2Proof.Machine

/-- R103: PARAMS in this spec's build (R8). -/
theorem paramsWord_specBuild : paramsWord Config.specBuild = 0x00100400#32 := by decide

theorem exec_rdParams_specBuild {s : State} (h : s.build = Config.specBuild) :
    exec .rdParams s = .next (answerRead 0x00100400#32 s) := by
  rw [← paramsWord_specBuild, ← h]
  rfl

/-- Settles O13. -/
theorem constantAndRunResultReads : Obligations.ConstantAndRunResultReads :=
  ⟨fun _ _ => ⟨rfl, rfl, rfl, rfl, rfl, rfl, rfl, rfl⟩,
    fun _ => ⟨rfl, rfl, exec_rdParams_specBuild, rfl, rfl, rfl, rfl, rfl, rfl⟩⟩

/-- Settles O16. -/
theorem configurationReads : Obligations.ConfigurationReads :=
  ⟨fun _ _ => ⟨rfl, rfl, rfl, rfl, rfl, rfl, rfl, rfl, rfl, rfl⟩,
    fun _ => ⟨rfl, rfl, rfl, rfl, rfl, rfl, rfl, rfl, rfl, rfl⟩⟩

/-- Settles O17. -/
theorem livePairReads : Obligations.LivePairReads :=
  ⟨fun _ _ => ⟨rfl, rfl, rfl, rfl, rfl, rfl⟩, fun _ => ⟨rfl, rfl, rfl, rfl, rfl, rfl⟩⟩

/-- Settles O20. -/
theorem registerWrites : Obligations.RegisterWrites := fun _ =>
  ⟨⟨rfl, rfl, rfl, rfl, rfl, rfl, rfl, rfl, rfl⟩, fun _ => ⟨rfl, rfl, rfl, rfl, rfl, rfl, rfl, rfl, rfl⟩⟩

end Sys2Proof.Machine
end

section
/-! PROOF. The commands (O26 to O31): the write of CMD that carries them, CheckConfig by the rows of the table of R153,
the sum FIR_GAIN, and then each command. -/

namespace Sys2Proof.Machine

open Sys2Proof.Safety

/-! The write of CMD (R105) -/

/-- The write of CMD with a legal command's word runs that command. -/
theorem exec_wrCmd_word {c : Command} (hc : ∀ w, c ≠ .illegal w) (s : State) :
    exec (.wrCmd c.word) s = exec c.toInstr s := by
  have hdecode : decodeCommand c.word = c := by
    cases c with
    | stageReset mask => exact decodeCommand_stageReset mask
    | illegal w => exact absurd rfl (hc w)
    | _ => rfl
  exact (execWrCmd_eq c.word s).trans (by rw [hdecode])

/-! CheckConfig (R153) -/

/-- The order of the checks, each condition named by its row of the table. -/
theorem checkConfig_eq (s : State) [∀ d, Decidable (checkFails s d)] :
    checkConfig s =
      if checkFails s 1 then .error ⟨1#4, 0#64⟩
      else if checkFails s 2 then .error ⟨2#4, 0#64⟩
      else if checkFails s 3 then .error ⟨3#4, 0#64⟩
      else if checkFails s 4 then .error ⟨4#4, 0#64⟩
      else if checkFails s 5 then .error ⟨5#4, 0#64⟩
      else if checkFails s 6 then .error ⟨6#4, 0#64⟩
      else (firstBadTap s.taps s.firNtaps.toNat).elim (.ok (incReduced s.mixFreq s.sampleRate))
        fun k => .error ⟨7#4, BitVec.ofNat 64 k⟩ := by
  have halpha : checkFails s 4 ↔ (lt64 zero64 s.dcAlpha && lt64 s.dcAlpha one64) = false := by simp [checkFails]
  simp only [halpha]
  unfold checkConfig
  cases firstBadTap s.taps s.firNtaps.toNat <;> simp only [checkFails] <;> rfl

/-- What is reported is the first row that fails. -/
theorem checkConfig_of_first_failed {s : State} {d k : Nat} (hfail : checkFails s d)
    (hpass : ∀ e, e < d → ¬checkFails s e) (hk : checkIndex s d k) :
    checkConfig s = .error ⟨BitVec.ofNat 4 d, BitVec.ofNat 64 k⟩ := by
  classical
  match d with
  | 1 | 2 | 3 | 4 | 5 | 6 =>
    obtain rfl : k = 0 := hk
    simp [checkConfig_eq, hfail, hpass]
  | 7 => simp [checkConfig_eq, hpass, firstBadTap_eq_some.2 hk]

theorem checkConfig_of_passed {s : State} (hpass : ∀ d, ¬checkFails s d) :
    checkConfig s = .ok (incReduced s.mixFreq s.sampleRate) := by
  classical
  have htaps : firstBadTap s.taps s.firNtaps.toNat = none :=
    firstBadTap_eq_none.2 fun k hk => Bool.eq_true_of_not_eq_false fun hbad => hpass 7 ⟨k, hk, hbad⟩
  simp [checkConfig_eq, hpass, htaps]

/-- START clears nothing that its checks read (R152). -/
theorem checkConfig_startClear (s : State) : checkConfig (startClear s) = checkConfig s := rfl

/-! FIR_GAIN (R43) -/

theorem firGainSum_succ (tap : Nat → F64) (k : Nat) :
    firGainSum tap (k + 2) = add64 (firGainSum tap (k + 1)) (tap (k + 1)) := by
  simp [firGainSum, List.range_succ]

/-- A length of 0 sums tap 0 as a length of 1 does. -/
theorem firGainSum_pred_succ (tap : Nat → F64) (n : Nat) : firGainSum tap (n - 1 + 1) = firGainSum tap n := rfl

/-! START (R152) -/

theorem execStart_of_run {s : State} (hrun : s.runState = .run) : execStart s = .next (refuseWrite s) := if_pos hrun

theorem execStart_of_checkConfig_error {s : State} {e : ConfigFailure} (hrun : s.runState ≠ .run)
    (hc : checkConfig s = .error e) :
    execStart s = .next (answerWrite (raiseFault 1#4 e.detail 0#3 e.index (startClear s))) := by
  rw [execStart, if_neg hrun, checkConfig_startClear, hc]

theorem execStart_of_checkConfig_ok {s : State} {inc : F64} (hrun : s.runState ≠ .run)
    (hc : checkConfig s = .ok inc) : execStart s = .next (answerWrite (startRun inc (startClear s))) := by
  rw [execStart, if_neg hrun, checkConfig_startClear, hc]

/-- Settles O29: what START clears before its checks is cleared by the fault procedure again or is a stage or a
counter. -/
theorem startFirstFailedCheck : Obligations.StartFirstFailedCheck := fun _ _ _ hrun hfail hpass hk =>
  execStart_of_checkConfig_error hrun (checkConfig_of_first_failed hfail hpass hk)

/-- Settles O30: the gain is reached tap by tap through the sums of the shorter lengths. -/
theorem startBeginsRun : Obligations.StartBeginsRun := by
  intro s hrun hpass
  refine ⟨firGainSum (tapRead s.taps) s.firNtaps.toNat, ?_, fun k => firGainSum (tapRead s.taps) (k + 1), rfl,
    firGainSum_succ _, (firGainSum_pred_succ _ _).symm⟩
  have hrate : s.sampleRate / s.decimM = BitVec.ofNat 32 (s.sampleRate.toNat / s.decimM.toNat) := BitVec.udiv_def
  have hinexact : s.sampleRate % s.decimM ≠ 0#32 ↔ s.sampleRate.toNat % s.decimM.toNat ≠ 0 := by
    rw [ne_eq, ← BitVec.toNat_inj, BitVec.toNat_umod]
    rfl
  rw [← hrate, ← decide_eq_decide.2 hinexact]
  exact execStart_of_checkConfig_ok hrun (checkConfig_of_passed hpass)

/-! The other commands -/

/-- Settles O31: the cases of R158. -/
theorem eosEndsRun : Obligations.EosEndsRun := fun _ =>
  ⟨fun hrun => if_neg hrun, fun hrun hkept => (if_pos hrun).trans (if_pos hkept),
    fun hrun hkept => (if_pos hrun).trans (if_neg (Nat.not_lt.2 hkept))⟩

/-- Settles O26. -/
theorem nopAndAbort : Obligations.NopAndAbort :=
  ⟨rfl, rfl, fun s => ⟨rfl, exec_wrCmd_word (c := .nop) nofun s, rfl, exec_wrCmd_word (c := .abort) nofun s⟩⟩

/-- R86: OPC in bits 7:0 and SMASK in bits 12:8. -/
theorem word_stageReset (mask : BitVec 5) :
    (Command.stageReset mask).word = BitVec.ofNat 32 (0x00000004 + mask.toNat * 2 ^ 8) := by
  apply BitVec.eq_of_toNat_eq
  simp only [Command.word, toNat_append_eq_add, BitVec.toNat_ofNat]
  have := mask.isLt
  omega

/-- Settles O27: `clearStages`, its history said entry by entry. -/
theorem stageResetClears : Obligations.StageResetClears := by
  intro mask s
  have hhist (j : Nat) :
      histGet (clearStages mask s).hist j = if mask.getLsbD 2 then czero else histGet s.hist j :=
    apply_ite (histGet · j) ..
  exact ⟨word_stageReset mask ▸ decodeCommand_stageReset mask, clearStages mask s, rfl, rfl, rfl, rfl, rfl, hhist,
    rfl, rfl, rfl, rfl⟩

/-! Acceptance (R151) -/

/-- Settles O28: START and EOS by their cases; the others answer OKAY in every STATE. -/
theorem commandAcceptance : Obligations.CommandAcceptance := by
  intro c s hc
  rw [exec_wrCmd_word hc]
  cases c with
  | start =>
    refine ⟨fun h => execStart_of_run (by simpa using h), fun h => ?_⟩
    rcases execStart_cases s with ⟨hrun, -⟩ | ⟨-, _, -, e⟩ | ⟨-, _, -, e⟩
    · exact absurd (.inl ⟨rfl, hrun⟩) h
    · exact ⟨_, e, rfl⟩
    · exact ⟨_, e, rfl⟩
  | eos =>
    refine ⟨fun h => if_neg (by simpa using h), fun h => ?_⟩
    rcases execEos_cases s with ⟨hrun, -⟩ | ⟨-, -, e⟩ | ⟨-, -, e⟩
    · exact absurd (.inr ⟨rfl, hrun⟩) h
    · exact ⟨_, e, rfl⟩
    · exact ⟨_, e, rfl⟩
  | nop | abort | stageReset mask => exact ⟨by simp, fun _ => ⟨_, rfl, rfl⟩⟩
  | illegal w => exact absurd rfl (hc w)

end Sys2Proof.Machine
end

section
/-! PROOF. An input beat taken in RUN with room in Q, whole (O32), and two of its cases: every value on the
way is finite (O33), and the input itself is not (O35). -/

namespace Sys2Proof.Machine

theorem execInBeat_of_room {s : State} (hrun : s.runState = .run) (hroom : s.queue.length < s.build.outFifoDepth)
    (hn : s.wNtaps.toNat ≤ s.build.tapDepth) (i q : F64) : execInBeat i q s = .next (acceptBeat ⟨i, q⟩ s) := by
  have hready : inReady s = true := by simp [inReady, hrun, hroom]
  rw [execInBeat, if_pos hready, if_pos hn]

theorem decKeep_eq_true_iff (cnt : U32) : decKeep cnt = true ↔ cnt = 0#32 := beq_iff_eq

theorem decKeep_eq_false_iff (cnt : U32) : decKeep cnt = false ↔ cnt ≠ 0#32 := beq_eq_false_iff_ne

/-- The demodulator reads no counter of beats (R252). -/
theorem demOnKept_countBeat (keep : Bool) (s : State) (f : Cplx) :
    demOnKept keep (countBeat s) f = demOnKept keep s f := rfl

/-- An accepted beat as one chain: the stages in order (R174), then a dropped sample, the first kept one, and a kept one
after it (R172, R252). -/
theorem acceptBeat_eq (x : Cplx) (s : State) :
    let y := dcbStep s.wAlpha s.dcPx s.dcPy x
    let m := ncoMix s.phi y
    let f := firOut (tapRead s.taps) s.wNtaps.toNat s.hist m
    let p := demProduct f s.demPrev
    acceptBeat x s =
      if ¬isFiniteC y then numericAnomaly 1#3 s.inCount (countBeat s)
      else if ¬isFiniteC m then numericAnomaly 2#3 s.inCount (countBeat s)
      else if ¬isFiniteC f then numericAnomaly 3#3 s.inCount (countBeat s)
      else if s.decCnt ≠ 0#32 then commitBeat x y m ⟨none, s.demPrev, s.demHasPrev, s.demKept⟩ (countBeat s)
      else if s.demHasPrev = false then commitBeat x y m ⟨none, f, true, min (s.demKept + 1) 2⟩ (countBeat s)
      else if ¬isFiniteC p then numericAnomaly 5#3 s.inCount (countBeat s)
      else commitBeat x y m ⟨some (angle p), f, true, min (s.demKept + 1) 2⟩ (countBeat s) := by
  have hcases := processBeat_cases x s.inCount (countBeat s)
  simp only [demOnKept_countBeat, countBeat_wAlpha, countBeat_dcPx, countBeat_dcPy, countBeat_phi, countBeat_taps,
    countBeat_wNtaps, countBeat_hist, countBeat_decCnt] at hcases
  unfold acceptBeat
  rcases hcases with ⟨hy, e⟩ | ⟨hy, hm, e⟩ | ⟨hy, hm, hf, e⟩ | ⟨hy, hm, hf, ⟨hd, e⟩ | ⟨d, hd, e⟩⟩ <;> rw [e]
  · simp [hy]
  · simp [hy, hm]
  · simp [hy, hm, hf]
  · obtain ⟨hkeep, hprev, hp⟩ := demOnKept_eq_none.1 hd
    rw [decKeep_eq_true_iff] at hkeep
    simp [hy, hm, hf, hkeep, hprev, hp]
  · rcases demOnKept_cases hd with ⟨hkeep, rfl⟩ | ⟨hkeep, hprev, rfl⟩ | ⟨hkeep, hprev, hp, rfl⟩
    · rw [decKeep_eq_false_iff] at hkeep
      simp [hy, hm, hf, hkeep]
    · rw [decKeep_eq_true_iff] at hkeep
      simp [hy, hm, hf, hkeep, hprev]
    · rw [decKeep_eq_true_iff] at hkeep
      simp [hy, hm, hf, hkeep, hprev, hp]

/-- A commit without an output leaves Q and OUT_COUNT (R172). -/
theorem commitBeat_of_out_none {d : DemNext} (hd : d.out = none) (x y m : Cplx) (s : State) :
    commitBeat x y m d s =
      { s with
        dcPx := x
        dcPy := y
        phi := ncoNext s.phi s.wInc
        hist := histPush s.wNtaps.toNat m s.hist
        decCnt := decNext s.decCnt s.wM
        demPrev := d.prev
        demHasPrev := d.hasPrev
        demKept := d.kept } := by
  simp [commitBeat, hd]

/-- Settles O32: the chain of `acceptBeat_eq`, its operations written out. -/
theorem inBeatProcesses : Obligations.InBeatProcesses := by
  intro s i q hrun hroom hn
  refine (execInBeat_of_room hrun hroom hn i q).trans (congrArg _ ?_)
  rw [acceptBeat_eq, commitBeat_of_out_none rfl, commitBeat_of_out_none rfl]
  rfl

/-- Settles O33: with the faults ruled out, the chain is its three commits. -/
theorem inBeatCompletes : Obligations.InBeatCompletes := by
  intro s i q hrun hroom hn y m f hy hm hf hp
  refine (execInBeat_of_room hrun hroom hn i q).trans (congrArg _ ?_)
  rw [acceptBeat_eq, if_neg (not_not.2 hy), if_neg (not_not.2 hm), if_neg (not_not.2 hf)]
  by_cases hkeep : s.decCnt = 0#32
  · rw [if_neg (not_not.2 hkeep)]
    by_cases hprev : s.demHasPrev = true
    · rw [if_neg (ne_false_of_eq_true hprev), if_neg (not_not.2 (hp hkeep hprev))]
      simp only [if_pos hkeep, if_pos (And.intro hkeep hprev), decide_eq_true hkeep, Bool.or_true]
      rfl
    · rw [if_pos (eq_false_of_ne_true hprev), commitBeat_of_out_none rfl]
      simp only [if_pos hkeep, if_neg (not_and_of_not_right _ hprev), decide_eq_true hkeep, Bool.or_true]
      rfl
  · rw [if_pos hkeep, commitBeat_of_out_none rfl]
    simp only [if_neg hkeep, if_neg (not_and_of_not_left _ hkeep), decide_eq_false hkeep, Bool.or_false]
    rfl

/-- Settles O35: the DC blocker's output is finite only for a finite input, so the chain stops at its first stage. -/
theorem nonFiniteInputFaultsAtDcb : Obligations.NonFiniteInputFaultsAtDcb := by
  intro s i q hrun hroom hn hbad
  refine (execInBeat_of_room hrun hroom hn i q).trans (congrArg _ ?_)
  rw [acceptBeat_eq]
  refine if_pos fun hy => ?_
  obtain ⟨hi, hq⟩ := (isFiniteC_iff _).1 (isFiniteC_of_dcbStep hy)
  rcases hbad with hbad | hbad
  · exact ne_true_of_eq_false hbad hi
  · exact ne_true_of_eq_false hbad hq

end Sys2Proof.Machine
end

section
/-! PROOF. Beats, kept samples and outputs stay in agreement (O60): a committed beat moves each of the counters as
IN_COUNT mod W_M and ceil(IN_COUNT / W_M) move from n to n + 1. -/

namespace Sys2Proof.Machine

/-- The selector's counter goes round its group (R240). -/
theorem decNext_toNat_eq_mod {cnt m : U32} (h : cnt.toNat < m.toNat) :
    (decNext cnt m).toNat = (cnt.toNat + 1) % m.toNat := by
  rw [decNext_toNat h]
  split
  · rename_i hwrap
    rw [hwrap, Nat.mod_self]
  · exact (Nat.mod_eq_of_lt (by omega)).symm

/-- R252: a kept sample counts up to 2, and gives an output when there was one before it. -/
theorem demOnKept_counts {s : State} (hprev : s.demHasPrev = decide (s.demKept ≠ 0)) {keep : Bool} {f : Cplx}
    {d : DemNext} (hd : demOnKept keep s f = some d) :
    d.kept = (if keep then min (s.demKept + 1) 2 else s.demKept) ∧ d.hasPrev = decide (d.kept ≠ 0) ∧
      d.out.isSome = (keep && s.demHasPrev) := by
  rcases demOnKept_cases hd with ⟨rfl, rfl⟩ | ⟨rfl, hfirst, rfl⟩ | ⟨rfl, hlater, -, rfl⟩
  · exact ⟨rfl, hprev, rfl⟩
  · exact ⟨rfl, by simp, by simp [hfirst]⟩
  · exact ⟨rfl, by simp, by simp [hlater]⟩

end Sys2Proof.Machine

namespace Sys2Proof.Safety

open Sys2Proof.Machine

theorem ceilDiv_zero {m : Nat} (hm : 1 ≤ m) : ceilDiv 0 m = 0 := Nat.div_eq_of_lt (by omega)

/-- A new group begins after a whole number of groups. -/
theorem ceilDiv_succ {m : Nat} (hm : 1 ≤ m) (n : Nat) :
    ceilDiv (n + 1) m = ceilDiv n m + if n % m = 0 then 1 else 0 := by
  have hnum : n + 1 + m - 1 = n + m - 1 + 1 := by omega
  have hdvd : m ∣ n + m - 1 + 1 ↔ n % m = 0 := by
    rw [Nat.sub_add_cancel (by omega), Nat.dvd_add_left dvd_rfl, Nat.dvd_iff_mod_eq_zero]
  rw [ceilDiv, hnum, Nat.succ_div]
  simp only [hdvd]
  rfl

theorem ceilDiv_le {m : Nat} (hm : 1 ≤ m) (n : Nat) : ceilDiv n m ≤ n := by
  induction n with
  | zero => exact (ceilDiv_zero hm).le
  | succ n ih =>
    rw [ceilDiv_succ hm]
    split <;> omega

/-- What `CountsAgree` says in RUN, of a state that has taken `n` beats. -/
structure RunCounts (n : Nat) (s : State) : Prop where
  wMPos : 1 ≤ s.wM.toNat
  decCnt : s.decCnt.toNat = n % s.wM.toNat
  kept : s.demKept = min (ceilDiv n s.wM.toNat) 2
  hasPrev : s.demHasPrev = decide (s.demKept ≠ 0)
  out : s.outCount.toNat = ceilDiv n s.wM.toNat - 1

theorem CountsAgree.runCounts {s : State} (h : CountsAgree s) (hr : s.runState = .run) :
    RunCounts s.inCount.toNat s := by
  obtain ⟨hm, hdec, hkept, hprev, hout⟩ := h.1 hr
  exact ⟨hm, hdec, hkept, hprev, hout⟩

theorem RunCounts.countsAgree {s : State} (h : RunCounts s.inCount.toNat s) (hr : s.runState = .run) :
    CountsAgree s :=
  ⟨fun _ => ⟨h.wMPos, h.decCnt, h.kept, h.hasPrev, h.out⟩, fun hd => by simp [hr] at hd⟩

/-- The counting facts bind only in RUN and DONE. -/
theorem countsAgree_of_not_run_done {s : State} (hr : s.runState ≠ .run) (hd : s.runState ≠ .done) : CountsAgree s :=
  ⟨fun h => absurd h hr, fun h => absurd h hd⟩

/-- R240, R252: a sample is kept exactly when `n` beats are a whole number of groups. -/
theorem RunCounts.commitBeat {n : Nat} {s : State} (h : RunCounts n s) (hn : n < 2 ^ 64) {x y m f : Cplx}
    {d : DemNext} (hd : demOnKept (decKeep s.decCnt) s f = some d) : RunCounts (n + 1) (commitBeat x y m d s) := by
  obtain ⟨hm, hdec, hkept, hprev, hout⟩ := h
  obtain ⟨hdkept, hdprev, hdout⟩ := demOnKept_counts hprev hd
  have hkeep : decKeep s.decCnt = decide (n % s.wM.toNat = 0) := by
    rw [← hdec, Bool.eq_iff_iff, decKeep_eq_true_iff, decide_eq_true_iff, ← BitVec.toNat_inj]
    rfl
  have hsucc := ceilDiv_succ hm n
  have hle := ceilDiv_le hm n
  refine ⟨hm, ?_, ?_, hdprev, ?_⟩
  · have hlt : s.decCnt.toNat < s.wM.toNat := hdec ▸ Nat.mod_lt n hm
    rw [commitBeat_decCnt, decNext_toNat_eq_mod hlt, hdec, Nat.mod_add_mod, commitBeat_wM]
  · rw [commitBeat_demKept, commitBeat_wM, hdkept, hkeep, hkept, hsucc]
    simp only [decide_eq_true_iff]
    split <;> omega
  · rw [commitBeat_outCount, commitBeat_wM, hdout, hkeep, hprev, hsucc]
    have hadd : (s.outCount + 1#64).toNat = s.outCount.toNat + 1 := by bv_omega
    simp only [Bool.and_eq_true, decide_eq_true_iff, apply_ite BitVec.toNat, hadd]
    split_ifs <;> omega

/-- R174: a beat that faults leaves RUN; one that is committed is counted by each counter. -/
theorem CountsAgree.acceptBeat {s : State} (h : CountsAgree s) (hr : s.runState = .run)
    (hn : s.inCount.toNat + 1 < 2 ^ 64) (x : Cplx) : CountsAgree (acceptBeat x s) := by
  unfold Machine.acceptBeat
  rcases processBeat_cases x s.inCount (countBeat s) with
    ⟨-, e⟩ | ⟨-, -, e⟩ | ⟨-, -, -, e⟩ | ⟨-, -, -, ⟨-, e⟩ | ⟨d, hd, e⟩⟩ <;> rw [e]
  · exact countsAgree_of_not_run_done nofun nofun
  · exact countsAgree_of_not_run_done nofun nofun
  · exact countsAgree_of_not_run_done nofun nofun
  · exact countsAgree_of_not_run_done nofun nofun
  · have hbefore : RunCounts s.inCount.toNat (countBeat s) := { h.runCounts hr with }
    have hcount : (countBeat s).inCount.toNat = s.inCount.toNat + 1 := by
      simp only [countBeat_inCount, BitVec.toNat_add, BitVec.toNat_ofNat]
      omega
    refine RunCounts.countsAgree ?_ hr
    rw [commitBeat_inCount, hcount]
    exact hbefore.commitBeat (by omega) hd

/-- R152: every count is 0 at the start of a run. -/
theorem countsAgree_startRun {s : State} {inc : F64} (hc : checkConfig (startClear s) = .ok inc) :
    CountsAgree (startRun inc (startClear s)) := by
  obtain ⟨-, hm, -⟩ := checkConfig_ok hc
  have hpos : 1 ≤ s.decimM.toNat := toNat_pos_of_ne_zero hm
  have hzero := ceilDiv_zero hpos
  exact RunCounts.countsAgree
    { wMPos := hpos
      decCnt := (Nat.zero_mod _).symm
      kept := by simp [hzero]
      hasPrev := rfl
      out := by simp [hzero] } rfl

/-- R178: EOS answers with DONE only after two kept samples, so after an output. -/
theorem CountsAgree.done {s : State} (h : CountsAgree s) (hr : s.runState = .run) (hk : 2 ≤ s.demKept)
    (irq : BitVec 2) : CountsAgree { s with runState := .done, irqStatus := irq } := by
  obtain ⟨-, -, hkept, -, hout⟩ := h.runCounts hr
  exact ⟨nofun, fun _ => ⟨hout, by simp only; omega⟩⟩

/-- A STAGE_RESET of other stages clears none of the counters (R164). -/
theorem CountsAgree.clearStages {s : State} (h : CountsAgree s) {mask : BitVec 5} (hmask : namesDecOrDem mask = false) :
    CountsAgree (clearStages mask s) := by
  obtain ⟨hdec, hdem⟩ := Bool.or_eq_false_iff.1 hmask
  simp only [CountsAgree, clearStages_decCnt, clearStages_demKept, clearStages_demHasPrev, hdec, hdem,
    Bool.false_eq_true, if_false]
  exact h

/-- A STAGE_RESET is recognised in both its forms (R86, R105). -/
theorem clearsDecOrDem_of_runsCommand {x : Txn} {mask : BitVec 5}
    (h : runsCommand (.stageReset mask) (decode x) = true) : clearsDecOrDem (.txn x) = namesDecOrDem mask := by
  cases hi : decode x with
  | stageReset m =>
    rw [hi, runsCommand_stageReset, beq_iff_eq] at h
    cases h
    simp [clearsDecOrDem, hi]
  | wrCmd w =>
    rw [hi, runsCommand_wrCmd, beq_iff_eq] at h
    simp [clearsDecOrDem, hi, h]
  | _ => rw [hi] at h; cases h

theorem CountsAgree.change {x : Txn} {s t : State} (h : CountsAgree s) (hn : s.inCount.toNat + 1 < 2 ^ 64)
    (hx : clearsDecOrDem (.txn x) = false) (c : Change (decode x) s t) : CountsAgree t := by
  cases c with
  | startFailed hi hr x hc e => subst e; exact countsAgree_of_not_run_done nofun nofun
  | started hi hr inc hc e => subst e; exact countsAgree_startRun hc
  | eosFailed hi hr hk e => subst e; exact countsAgree_of_not_run_done nofun nofun
  | eosDone hi hr hk e => subst e; exact h.done hr hk (setDone s.irqStatus)
  | aborted hi e => subst e; exact countsAgree_of_not_run_done nofun nofun
  | stagesReset mask hi e =>
    subst e
    exact h.clearStages ((clearsDecOrDem_of_runsCommand hi).symm.trans hx)
  | beat i q hi hr hm e =>
    subst e
    obtain ⟨hrun, -⟩ := run_of_inReady hr
    exact h.acceptBeat hrun hn ⟨i, q⟩
  | _ => subst_vars; exact h

/-- Settles O60: reset leaves IDLE, a transaction makes one of its changes, and what stays offered counts nothing. -/
theorem stepKeepsCounts : Obligations.StepKeepsCounts := by
  intro s t h hn hclear hstep
  rcases step_cases s with ⟨-, hs⟩ | ⟨e, rest, hnext, hs⟩ <;> rw [hs] at hstep
  · cases hstep
    exact h
  · have hoffered : CountsAgree { s with offered := rest } := h
    rcases performEvent_cases hstep with ⟨-, rfl⟩ | ⟨x, rfl, c⟩
    · exact countsAgree_of_not_run_done nofun nofun
    · exact hoffered.change hn (hclear _ _ hnext) c

end Sys2Proof.Safety
end

section
/-! PROOF. The first sample after a clear goes through the DC blocker (O37). A finite value is fixed by its sign and its
exact value, so a sum with a zero is rounded back to the value itself; two zeros sum to +0 unless both are −0 (R10). -/

namespace Sys2Proof.Machine

/-! A value is its sign and its magnitude -/

theorem toNat_eq_sign_add_lowBits (x : F64) : x.toNat = (if sign64 x then 2 ^ 63 else 0) + lowBits x := by
  have hlt := x.isLt
  rw [sign64_eq, lowBits]
  split <;> rename_i h <;> simp only [decide_eq_true_eq] at h <;> omega

/-- Bit 63 and bits 62:0 are all of a value (R89). -/
theorem eq_of_sign64_lowBits {x y : F64} (hs : sign64 x = sign64 y) (hl : lowBits x = lowBits y) : x = y :=
  BitVec.eq_of_toNat_eq (by rw [toNat_eq_sign_add_lowBits x, toNat_eq_sign_add_lowBits y, hs, hl])

@[simp] theorem sign64_signedZero (neg : Bool) : sign64 (signedZero neg) = neg := by
  cases neg <;> decide

@[simp] theorem isZero64_signedZero (neg : Bool) : isZero64 (signedZero neg) = true := by
  cases neg <;> decide

/-- The two zeros are the only ones. -/
theorem eq_signedZero_of_isZero64 {x : F64} (h : isZero64 x = true) : x = signedZero (sign64 x) := by
  have hl := (isZero64_iff x).1 h
  have hz := (isZero64_iff _).1 (isZero64_signedZero (sign64 x))
  exact eq_of_sign64_lowBits (sign64_signedZero _).symm (hl.trans hz.symm)

/-- −0 is the zero whose sign is set. -/
theorem eq_negZero_iff (x : F64) : x = 0x8000000000000000#64 ↔ isZero64 x = true ∧ sign64 x = true := by
  constructor
  · rintro rfl
    decide
  · rintro ⟨hz, hs⟩
    rw [eq_signedZero_of_isZero64 hz, hs]
    rfl

theorem isFinite64_of_isZero64 {x : F64} (h : isZero64 x = true) : isFinite64 x = true := by
  rw [eq_signedZero_of_isZero64 h]
  exact isFinite64_signedZero _

theorem units64_eq_zero_iff (x : F64) : units64 x = 0 ↔ isZero64 x = true := by
  rw [← Int.natAbs_eq_zero, natAbs_units64]
  constructor
  · intro hmag
    by_contra hz
    have := mag64_pos_of_not_zero (Bool.eq_false_of_not_eq_true hz)
    omega
  · intro hz
    rw [mag64_eq, (isZero64_iff x).1 hz, bitsMag_zero]

/-! Rounding and adding what is exact already (R10) -/

/-- A finite value is the rounding of its own magnitude. -/
theorem round64_mag64 {x : F64} (hx : isFinite64 x = true) : round64 (sign64 x) (mag64 x) 1 = x := by
  have hbits : roundBits (mag64 x) 1 = lowBits x := by
    have h := roundBits_bitsMag Nat.one_pos ((isFinite64_iff x).1 hx)
    rwa [Nat.mul_one, ← mag64_eq] at h
  exact eq_of_sign64_lowBits (sign64_round64 _ _ _) ((lowBits_round64 _ _ _).trans hbits)

/-- The exact value of a finite value other than a zero rounds to it; that of a zero has lost its sign. -/
theorem roundInt64_units64 {x : F64} (hx : isFinite64 x = true) (hz : isZero64 x = false) :
    roundInt64 (units64 x) = x := by
  have hpos := mag64_pos_of_not_zero hz
  have hsign : decide (units64 x < 0) = sign64 x := by
    rw [units64_signed]
    cases sign64 x <;> simp [signed, hpos]
  rw [roundInt64, hsign, natAbs_units64, round64_mag64 hx]

/-- A zero added changes no value but a −0, which stays only beside another −0 (R10). -/
theorem add64_of_isZero64_right {x z : F64} (hx : isFinite64 x = true) (hz : isZero64 z = true) :
    add64 x z = if isZero64 x then signedZero (sign64 x && sign64 z) else x := by
  rw [add64_finite hx (isFinite64_of_isZero64 hz), (units64_eq_zero_iff z).2 hz, Int.add_zero]
  cases hx0 : isZero64 x with
  | true => simp [(units64_eq_zero_iff x).2 hx0, hz]
  | false =>
    have hne : units64 x ≠ 0 := fun h => by simp [(units64_eq_zero_iff x).1 h] at hx0
    simp [hne, roundInt64_units64 hx hx0]

/-- `x − 0` is `x`: the subtracted +0 is an added −0, beside which a zero keeps its sign. -/
theorem sub64_zero64 {x : F64} (hx : isFinite64 x = true) : sub64 x zero64 = x := by
  have hz : isZero64 (neg64 zero64) = true := by decide
  have hs : sign64 (neg64 zero64) = true := by decide
  rw [sub64, add64_of_isZero64_right hx hz, hs, Bool.and_true]
  split
  · rename_i hx0
    exact (eq_signedZero_of_isZero64 hx0).symm
  · rfl

/-- `x + 0` is `x`, but for −0, which becomes +0. -/
theorem add64_zero64 {x : F64} (hx : isFinite64 x = true) :
    add64 x zero64 = if x = 0x8000000000000000#64 then zero64 else x := by
  have hz : isZero64 zero64 = true := by decide
  have hs : sign64 zero64 = false := by decide
  rw [add64_of_isZero64_right hx hz, hs, Bool.and_false]
  by_cases hneg : x = 0x8000000000000000#64
  · have hx0 := ((eq_negZero_iff x).1 hneg).1
    rw [if_pos hx0, if_pos hneg]
    rfl
  · rw [if_neg hneg]
    split
    · rename_i hx0
      have hpos : sign64 x = false := Bool.eq_false_of_not_eq_true fun h => hneg ((eq_negZero_iff x).2 ⟨hx0, h⟩)
      rw [eq_signedZero_of_isZero64 hx0, hpos]
    · rfl

/-- A finite value with a clear sign times +0 is +0. -/
theorem mul64_zero64 {a : F64} (ha : isFinite64 a = true) (hs : sign64 a = false) : mul64 a zero64 = zero64 := by
  have hmag : mag64 zero64 = 0 := by decide
  have hsign : sign64 zero64 = false := by decide
  rw [mul64_finite ha isFinite64_zero64, hmag, Nat.mul_zero, hs, hsign, round64, roundBits_zero]
  rfl

/-- A value above ZERO has a clear sign. -/
theorem sign64_of_pos {a : F64} (h : lt64 zero64 a = true) : sign64 a = false := by
  simp only [lt64, Bool.and_eq_true, decide_eq_true_eq] at h
  obtain ⟨-, hpos⟩ := h
  have hzero : order64 zero64 = 0 := by decide
  rw [hzero, order64_eq] at hpos
  by_contra hs
  rw [if_pos (Bool.eq_true_of_not_eq_false hs)] at hpos
  omega

/-! The DC blocker -/

/-- R190 from cleared state: the difference gives the part itself and the feedback gives +0, so what is left of the
step is the sum with +0. -/
theorem dcbPart_cleared {alpha x : F64} (ha : isFinite64 alpha = true) (hs : sign64 alpha = false)
    (hx : isFinite64 x = true) :
    dcbPart alpha zero64 zero64 x = if x = 0x8000000000000000#64 then zero64 else x := by
  rw [dcbPart, sub64_zero64 hx, mul64_zero64 ha hs, add64_zero64 hx]

/-- Settles O37: each part is a part of the DC blocker from cleared state, with a legal alpha (R153 check 4). -/
theorem dcbFirstSample : Obligations.DcbFirstSample := by
  intro alpha x hpos hone hx
  have ha : isFinite64 alpha = true := isFinite64_of_between (Bool.and_eq_true_iff.2 ⟨hpos, hone⟩)
  have hs := sign64_of_pos hpos
  obtain ⟨hre, him⟩ := (isFiniteC_iff x).1 hx
  rw [dcbStep, czero, dcbPart_cleared ha hs hre, dcbPart_cleared ha hs him]

end Sys2Proof.Machine
end

section
/-! PROOF. NCO_COS and NCO_SIN (O39), and the mixer at a zero phase (O38), where a part is multiplied by ONE and summed
with a zero product (R201, R203). -/

namespace Sys2Proof.Machine

/-! The range [-b, b] as one of magnitudes -/

theorem mag64_of_isZero64 {x : F64} (h : isZero64 x = true) : mag64 x = 0 := by
  rw [← natAbs_units64, (units64_eq_zero_iff x).2 h, Int.natAbs_zero]

@[simp] theorem isZero64_neg64 (x : F64) : isZero64 (neg64 x) = isZero64 x := by
  rw [Bool.eq_iff_iff, isZero64_iff, isZero64_iff, lowBits_neg64]

/-- A finite bound with a clear sign bounds a value from both sides exactly where it bounds its magnitude. -/
theorem le64_neg64_and_le64_iff {b : F64} (hb : isFinite64 b = true) (hs : sign64 b = false) (v : F64) :
    le64 (neg64 b) v = true ∧ le64 v b = true ↔ mag64 v ≤ mag64 b := by
  have hv := natAbs_order64 v
  have hbo : order64 b = lowBits b := by rw [order64_eq, hs]; rfl
  rw [mag64_le_iff, le64_iff_order, le64_iff_order, order64_neg64, isNan64_neg64, hbo]
  constructor
  · rintro ⟨⟨-, -, hlo⟩, -, -, hhi⟩
    omega
  · intro h
    have hfin := isFinite64_of_mag64_le ((mag64_le_iff v b).2 h) hb
    have hnanb := (not_nan_of_finite hb).1
    have hnanv := (not_nan_of_finite hfin).1
    exact ⟨⟨hnanb, hnanv, by omega⟩, hnanv, hnanb, by omega⟩

theorem mag64_within64_le {b : F64} (hb : isFinite64 b = true) (hs : sign64 b = false) (v : F64) :
    mag64 (within64 b v) ≤ mag64 b := by
  unfold within64
  split
  · rename_i h
    exact (le64_neg64_and_le64_iff hb hs v).1 (Bool.and_eq_true_iff.1 h)
  · exact (mag64_of_isZero64 (by decide : isZero64 zero64 = true)).trans_le (Nat.zero_le _)

/-! NCO_COS and NCO_SIN (R203) -/

theorem isFinite64_one64 : isFinite64 one64 = true := by decide

theorem sign64_one64 : sign64 one64 = false := by decide

theorem ncoCos_of_isZero64 {phi : F64} (h : isZero64 phi = true) : ncoCos phi = one64 := if_pos h

theorem ncoSin_of_isZero64 {phi : F64} (h : isZero64 phi = true) : ncoSin phi = phi := if_pos h

theorem mag64_ncoCos_le (phi : F64) : mag64 (ncoCos phi) ≤ mag64 one64 := by
  unfold ncoCos
  split
  · exact le_rfl
  · exact mag64_within64_le isFinite64_one64 sign64_one64 _

theorem mag64_ncoSin_le (phi : F64) : mag64 (ncoSin phi) ≤ mag64 one64 := by
  unfold ncoSin
  split
  · rename_i hz
    exact (mag64_of_isZero64 hz).trans_le (Nat.zero_le _)
  · split
    · rw [mag64_neg64]
      exact mag64_within64_le isFinite64_one64 sign64_one64 _
    · exact mag64_within64_le isFinite64_one64 sign64_one64 _

theorem toNat_abs64 (x : F64) : (abs64 x).toNat = lowBits x := by
  rw [abs64, BitVec.toNat_and]
  exact Nat.and_two_pow_sub_one_eq_mod x.toNat 63

/-- Clearing bit 63 forgets a flip of it. -/
theorem abs64_neg64 (x : F64) : abs64 (neg64 x) = abs64 x :=
  BitVec.eq_of_toNat_eq (by rw [toNat_abs64, toNat_abs64, lowBits_neg64])

/-- Property 4 for NCO_COS: even. -/
theorem ncoCos_neg64 (phi : F64) : ncoCos (neg64 phi) = ncoCos phi := by
  rw [ncoCos, ncoCos, isZero64_neg64, abs64_neg64]

/-- Property 4 for NCO_SIN: odd. The free function is only asked at phases with a clear sign. -/
theorem ncoSin_neg64 (phi : F64) : ncoSin (neg64 phi) = neg64 (ncoSin phi) := by
  unfold ncoSin
  rw [isZero64_neg64, sign64_neg64]
  cases isZero64 phi with
  | true => rfl
  | false => cases sign64 phi <;> simp

/-- Settles O39: range and finiteness come from the bound on the magnitudes. -/
theorem ncoFunctionProperties : Obligations.NcoFunctionProperties := by
  have hrange := le64_neg64_and_le64_iff isFinite64_one64 sign64_one64
  have hzero : isZero64 zero64 = true := by decide
  have hnegZero : isZero64 (neg64 zero64) = true := (isZero64_neg64 _).trans hzero
  refine ⟨fun phi => ?_, ncoCos_of_isZero64 hzero, ncoCos_of_isZero64 hnegZero, ncoSin_of_isZero64 hzero,
    ncoSin_of_isZero64 hnegZero⟩
  have hcos := mag64_ncoCos_le phi
  have hsin := mag64_ncoSin_le phi
  obtain ⟨hcosLo, hcosHi⟩ := (hrange _).2 hcos
  obtain ⟨hsinLo, hsinHi⟩ := (hrange _).2 hsin
  exact ⟨isFinite64_of_mag64_le hcos isFinite64_one64, isFinite64_of_mag64_le hsin isFinite64_one64,
    hcosLo, hcosHi, hsinLo, hsinHi, ncoCos_neg64 phi, ncoSin_neg64 phi⟩

/-! The mixer at a zero phase (R201) -/

theorem mag64_one64 : mag64 one64 = 2 ^ 1074 := by decide +kernel

/-- A finite value times ONE is the value. -/
theorem mul64_one64 {x : F64} (hx : isFinite64 x = true) : mul64 x one64 = x := by
  have hbits : roundBits (mag64 x * 2 ^ 1074) (2 ^ 1074) = lowBits x := by
    rw [mag64_eq]
    exact roundBits_bitsMag (by positivity) ((isFinite64_iff x).1 hx)
  rw [mul64_finite hx isFinite64_one64, mag64_one64, sign64_one64, Bool.bne_false]
  exact eq_of_sign64_lowBits (sign64_round64 _ _ _) ((lowBits_round64 _ _ _).trans hbits)

/-- A finite value times a zero is a zero. -/
theorem isZero64_mul64 {a z : F64} (ha : isFinite64 a = true) (hz : isZero64 z = true) :
    isZero64 (mul64 a z) = true := by
  rw [mul64_finite ha (isFinite64_of_isZero64 hz), mag64_of_isZero64 hz, Nat.mul_zero, isZero64_iff, lowBits_round64,
    roundBits_zero]

/-- Addition of finite values does not depend on their order. -/
theorem add64_comm_of_finite {a b : F64} (ha : isFinite64 a = true) (hb : isFinite64 b = true) :
    add64 a b = add64 b a := by
  rw [add64_finite ha hb, add64_finite hb ha, Int.add_comm]
  have hsign : (isZero64 a && isZero64 b && sign64 a && sign64 b) =
      (isZero64 b && isZero64 a && sign64 b && sign64 a) := by
    ac_rfl
  rw [hsign]

/-- At a zero phase each part is summed with a zero product. -/
theorem ncoMix_of_isZero64 {phi : F64} (hphi : isZero64 phi = true) {y : Cplx} (hre : isFinite64 y.re = true)
    (him : isFinite64 y.im = true) :
    ncoMix phi y = ⟨add64 y.re (neg64 (mul64 y.im phi)), add64 y.im (mul64 y.re phi)⟩ := by
  have hprod := isFinite64_of_isZero64 (isZero64_mul64 hre hphi)
  rw [ncoMix, ncoCos_of_isZero64 hphi, ncoSin_of_isZero64 hphi, mul64_one64 hre, mul64_one64 him, sub64,
    add64_comm_of_finite hprod him]

/-- A value other than a zero keeps its bits beside an added zero. -/
theorem add64_of_not_zero {x z : F64} (hx : isFinite64 x = true) (hz : isZero64 z = true) (h0 : isZero64 x = false) :
    add64 x z = x := by
  rw [add64_of_isZero64_right hx hz, h0]
  rfl

theorem isZero64_add64 {x z : F64} (hx : isZero64 x = true) (hz : isZero64 z = true) :
    isZero64 (add64 x z) = true := by
  rw [add64_of_isZero64_right (isFinite64_of_isZero64 hx) hz, if_pos hx, isZero64_signedZero]

/-- Settles O38: the product beside each part is a zero, which leaves a part other than a zero alone. -/
theorem mixerAtZeroPhase : Obligations.MixerAtZeroPhase := by
  intro phi y hphi hy
  obtain ⟨hre, him⟩ := (isFiniteC_iff y).1 hy
  have hzim : isZero64 (neg64 (mul64 y.im phi)) = true := (isZero64_neg64 _).trans (isZero64_mul64 him hphi)
  have hzre := isZero64_mul64 hre hphi
  rw [ncoMix_of_isZero64 hphi hre him]
  exact ⟨add64_of_not_zero hre hzim, add64_of_not_zero him hzre, fun h0 => isZero64_add64 h0 hzim,
    fun h0 => isZero64_add64 h0 hzre⟩

end Sys2Proof.Machine
end

section
/-! PROOF. The phase wrap is exact (O41): a sum no larger than either of its terms needs no rounding. -/

namespace Sys2Proof.Machine

/-! Sums that need no rounding -/

/-- The sum of two finite values is a magnitude of the format when neither term is smaller: it is a whole number of
steps of the finer term (Sterbenz's lemma). -/
theorem exists_bits_add {a b : F64} (ha : (units64 a + units64 b).natAbs ≤ mag64 a)
    (hb : (units64 a + units64 b).natAbs ≤ mag64 b) : ∃ g, bitsMag g = (units64 a + units64 b).natAbs := by
  obtain ⟨m, e, hm, hae⟩ := bitsMag_steps (lowBits a)
  obtain ⟨m', e', hm', hbe⟩ := bitsMag_steps (lowBits b)
  rw [← mag64_eq] at hae hbe
  have hdvd : ∀ {f}, f ≤ e → f ≤ e' → 2 ^ f ∣ (units64 a + units64 b).natAbs := fun {f} hfe hfe' =>
    Int.natCast_dvd.1 (dvd_add
      (Int.natCast_dvd.2 (natAbs_units64 a ▸ hae ▸ (pow_dvd_pow 2 hfe).mul_left m))
      (Int.natCast_dvd.2 (natAbs_units64 b ▸ hbe ▸ (pow_dvd_pow 2 hfe').mul_left m')))
  rcases Nat.le_total e e' with hee | hee
  · exact exists_bits_of_dvd hm (hdvd le_rfl hee) (ha.trans hae.le)
  · exact exists_bits_of_dvd hm' (hdvd hee le_rfl) (hb.trans hbe.le)

/-- A magnitude of the format, no larger than a finite value's, comes out of rounding with its sign (R10). -/
theorem units64_roundInt64 {v : Int} {g : Nat} {c : F64} (hg : bitsMag g = v.natAbs) (hle : v.natAbs ≤ mag64 c)
    (hc : isFinite64 c = true) : units64 (roundInt64 v) = v := by
  obtain ⟨-, hkeep⟩ := roundBits_of_bitsMag_le hg (hle.trans_eq (mag64_eq c)) ((isFinite64_iff c).1 hc)
  rw [roundInt64, units64_round64, hkeep, signed_natAbs]

theorem units64_add64_of_le {a b : F64} (ha : isFinite64 a = true) (hb : isFinite64 b = true)
    (hla : (units64 a + units64 b).natAbs ≤ mag64 a) (hlb : (units64 a + units64 b).natAbs ≤ mag64 b) :
    units64 (add64 a b) = units64 a + units64 b := by
  obtain ⟨g, hg⟩ := exists_bits_add hla hlb
  rw [add64_finite ha hb]
  split
  · rename_i hzero
    rw [units64_signedZero, hzero]
  · exact units64_roundInt64 hg hla ha

/-! The wrap (R202) -/

theorem isFinite64_pi64 : isFinite64 pi64 = true := by decide

theorem isFinite64_twoPi64 : isFinite64 twoPi64 = true := by decide

/-- Up to a whole turn, what a correction leaves is at most half a turn, so it is no larger than the phase it corrects
and no larger than the turn it takes off: it needs no rounding. -/
theorem units64_wrapPhase {s : F64} (hs : mag64 s ≤ mag64 twoPi64) :
    units64 (wrapPhase s) =
      if lt64 pi64 s then units64 s - units64 twoPi64
      else if lt64 s (neg64 pi64) then units64 s + units64 twoPi64
      else units64 s := by
  have hfin := isFinite64_of_mag64_le hs isFinite64_twoPi64
  have hturn := mag64_twoPi64
  have hmag := natAbs_units64 s
  unfold wrapPhase
  split
  · rename_i hover
    rw [lt64_iff isFinite64_pi64 hfin, units64_pi64] at hover
    have hadd := units64_add64_of_le (b := neg64 twoPi64) hfin ((isFinite64_neg64 _).trans isFinite64_twoPi64)
    rw [mag64_neg64, units64_neg64, units64_twoPi64] at hadd
    rw [sub64, units64_twoPi64, Int.sub_eq_add_neg]
    exact hadd (by omega) (by omega)
  · split
    · rename_i hunder
      rw [lt64_iff hfin ((isFinite64_neg64 _).trans isFinite64_pi64), units64_neg64, units64_pi64] at hunder
      have htwo := units64_twoPi64
      exact units64_add64_of_le hfin isFinite64_twoPi64 (by omega) (by omega)
    · rfl

/-- A sum of two values of the range is at most a whole turn. -/
theorem mag64_add64_le_twoPi64 {phi inc : F64} (hphi : inPiRange phi = true) (hinc : inPiRange inc = true) :
    mag64 (add64 phi inc) ≤ mag64 twoPi64 := by
  rw [inPiRange_iff_mag64] at hphi hinc
  apply mag64_add64_le (isFinite64_of_mag64_le hphi isFinite64_pi64) (isFinite64_of_mag64_le hinc isFinite64_pi64)
  rw [← natAbs_units64] at hphi hinc
  have := mag64_twoPi64
  omega

/-- Settles O41: the range is the oscillator's, and the correction of a sum of at most a whole turn is exact. -/
theorem wrapIsExactAndInRange : Obligations.WrapIsExactAndInRange := fun _ _ hphi hinc =>
  ⟨inPiRange_ncoNext hphi hinc, units64_wrapPhase (mag64_add64_le_twoPi64 hphi hinc)⟩

end Sys2Proof.Machine
end

section
/-! PROOF. The working increment (O42): negation goes through the rounded product and quotient, and the remainder takes
off whole turns, none from a value that is at most half a turn. -/

namespace Sys2Proof.Machine

/-! The rate (R200) -/

/-- A u32 has fewer than 53 bits, so its value is one of the format. -/
theorem roundBits_u32 (n : U32) :
    roundBits (n.toNat * 2 ^ 1074) 1 < 2047 * 2 ^ 52 ∧
      bitsMag (roundBits (n.toNat * 2 ^ 1074) 1) = n.toNat * 2 ^ 1074 := by
  have hn : n.toNat < 2 ^ 53 := n.isLt.trans (by norm_num)
  obtain ⟨g, hg⟩ := exists_bits_of_steps 1074 hn
  refine roundBits_of_bitsMag_le (p := 2047 * 2 ^ 52 - 1) hg ?_ (by norm_num)
  rw [bitsMag_maxFinite]
  exact Nat.mul_le_mul (by omega) (pow_le_pow_right₀ (by norm_num) (by norm_num))

theorem ofU32_eq (n : U32) : ofU32 n = round64 false (n.toNat * 2 ^ 1074) 1 := by
  rw [ofU32, shiftLeft_eq_mul_pow]

theorem isFinite64_ofU32 (n : U32) : isFinite64 (ofU32 n) = true := by
  rw [ofU32_eq, isFinite64_iff, lowBits_round64]
  exact (roundBits_u32 n).1

theorem units64_ofU32 (n : U32) : units64 (ofU32 n) = (n.toNat : Int) * 2 ^ 1074 := by
  rw [ofU32_eq, units64_round64, (roundBits_u32 n).2]
  simp only [signed, Bool.false_eq_true, if_false, Nat.cast_mul, Nat.cast_pow, Nat.cast_ofNat]

theorem isZero64_ofU32 {n : U32} (hn : n ≠ 0#32) : isZero64 (ofU32 n) = false := by
  have hpos := toNat_pos_of_ne_zero hn
  rw [Bool.eq_false_iff, ne_eq, ← units64_eq_zero_iff, units64_ofU32]
  positivity

/-! The sign of a frequency (R200) -/

theorem neg64_round64 (neg : Bool) (num den : Nat) : neg64 (round64 neg num den) = round64 (!neg) num den :=
  eq_of_sign64_lowBits (by simp) (by simp)

theorem neg64_signedInf (neg : Bool) : neg64 (signedInf neg) = signedInf (!neg) := by
  cases neg <;> decide

theorem mul64_neg64_right {a b : F64} (ha : isFinite64 a = true) (hb : isFinite64 b = true) :
    mul64 a (neg64 b) = neg64 (mul64 a b) := by
  rw [mul64_finite ha ((isFinite64_neg64 b).trans hb), mul64_finite ha hb, neg64_round64, sign64_neg64, mag64_neg64,
    Bool.bne_not]

/-- Rounding gives no NaN: no pattern lies above that of infinity. -/
theorem isNan64_round64 (neg : Bool) (num den : Nat) : isNan64 (round64 neg num den) = false := by
  have hle := roundBits_le_inf num den
  rw [isNan64, expo64_eq, frac64_eq, lowBits_round64, Bool.and_eq_false_iff, beq_eq_false_iff_ne, bne_eq_false_iff_eq]
  omega

/-- A product of finite values is no NaN: beyond the finite values it is an infinity. -/
theorem isNan64_mul64 {a b : F64} (ha : isFinite64 a = true) (hb : isFinite64 b = true) :
    isNan64 (mul64 a b) = false := by
  rw [mul64_finite ha hb]
  exact isNan64_round64 _ _ _

@[simp] theorem isInf64_neg64 (x : F64) : isInf64 (neg64 x) = isInf64 x := by
  simp [isInf64, expo64_eq, frac64_eq]

theorem div64_of_isInf64 {a b : F64} (hnan : isNan64 a = false) (ha : isInf64 a = true) (hb : isFinite64 b = true) :
    div64 a b = signedInf (sign64 a != sign64 b) := by
  obtain ⟨hnb, hib⟩ := not_nan_of_finite hb
  rw [div64, if_neg (by simp [hnan, hnb]), if_pos ha, if_neg (by simp [hib])]

theorem div64_neg64_left {a b : F64} (ha : isNan64 a = false) (hb : isFinite64 b = true) (h0 : isZero64 b = false) :
    div64 (neg64 a) b = neg64 (div64 a b) := by
  cases hinf : isInf64 a with
  | false =>
    have hfin : isFinite64 a = true := by rw [isFinite64_eq, ha, hinf]; rfl
    rw [div64_finite ((isFinite64_neg64 a).trans hfin) hb h0, div64_finite hfin hb h0, neg64_round64, sign64_neg64,
      mag64_neg64, Bool.not_bne]
  | true =>
    rw [div64_of_isInf64 ((isNan64_neg64 a).trans ha) ((isInf64_neg64 a).trans hinf) hb, div64_of_isInf64 ha hinf hb,
      neg64_signedInf, sign64_neg64, Bool.not_bne]

/-- A frequency of the other sign gives the increment of the other sign. -/
theorem incRaw_eq_div64_neg64 {f : F64} {fs : U32} (hf : isFinite64 f = true) (hfs : fs ≠ 0#32) :
    incRaw f fs = div64 (mul64 twoPi64 (neg64 f)) (ofU32 fs) := by
  rw [incRaw, mul64_neg64_right isFinite64_twoPi64 hf,
    div64_neg64_left (isNan64_mul64 isFinite64_twoPi64 hf) (isFinite64_ofU32 fs) (isZero64_ofU32 hfs)]

/-! The reduction (R200) -/

/-- Of at most half a divisor nothing is taken off, a tie going to the even 0. -/
theorem roundEven_of_two_mul_le {num den : Nat} (hd : 0 < den) (h : 2 * num ≤ den) : roundEven num den = 0 := by
  have hq : num / den = 0 := Nat.div_eq_of_lt (by omega)
  have hr : num % den = num := Nat.mod_eq_of_lt (by omega)
  rw [roundEven, hq, hr, if_neg (Nat.not_lt.2 h)]
  simp

/-- A value at most half the divisor is its own remainder, zeros with their sign included. -/
theorem rem64_of_two_mul_mag64_le {a b : F64} (ha : isFinite64 a = true) (hb : isFinite64 b = true)
    (h0 : isZero64 b = false) (h : 2 * mag64 a ≤ mag64 b) : rem64 a b = a := by
  have hrest : restOf (mag64 a) (mag64 b) = mag64 a := by
    rw [restOf, roundEven_of_two_mul_le (mag64_pos_of_not_zero h0) h]
    simp
  rw [rem64_finite ha hb h0, hrest]
  split
  · rename_i hzero
    have hz : isZero64 a = true := (units64_eq_zero_iff a).1 (by rw [← Int.natAbs_eq_zero, natAbs_units64]; omega)
    exact (eq_signedZero_of_isZero64 hz).symm
  · have hneg : decide ((mag64 a : Int) < 0) = false := by simp
    rw [hneg, Bool.bne_false, Int.natAbs_natCast, round64_mag64 ha]

theorem isZero64_twoPi64 : isZero64 twoPi64 = false := by decide

theorem incReduced_of_inPiRange {f : F64} {fs : U32} (h : inPiRange (incRaw f fs) = true) :
    incReduced f fs = incRaw f fs := by
  rw [inPiRange_iff_mag64] at h
  have hturn := mag64_twoPi64
  exact rem64_of_two_mul_mag64_le (isFinite64_of_mag64_le h isFinite64_pi64) isFinite64_twoPi64 isZero64_twoPi64
    (by omega)

/-- Settles O42: the whole turns are those the exact remainder takes off (O48). -/
theorem workingIncrement : Obligations.WorkingIncrement := by
  intro f fs hf hfs
  refine ⟨rfl, units64_ofU32 fs, incRaw_eq_div64_neg64 hf hfs, fun hraw => ?_⟩
  obtain ⟨-, n, hturns, -⟩ := remainderIsExact _ _ hraw isFinite64_twoPi64 isZero64_twoPi64
  exact ⟨inPiRange_incReduced hraw, ⟨n, hturns⟩, incReduced_of_inPiRange⟩

end Sys2Proof.Machine
end

section
/-! PROOF. The FIR sum, its two parts and the next history (O43). -/

namespace Sys2Proof.Machine

/-! The FIR output (R220) -/

/-- With one tap the history plays no part. -/
theorem firSum_one (tap past : Nat → F64) (m : F64) : firSum tap past 1 m = mul64 (tap 0) m := rfl

/-- A further tap adds its product to each of the two parts. -/
theorem firOut_succ (tap : Nat → F64) (n : Nat) (h : List Cplx) (m : Cplx) :
    firOut tap (n + 2) h m =
      ⟨add64 (firOut tap (n + 1) h m).re (mul64 (tap (n + 1)) (histGet h n).re),
        add64 (firOut tap (n + 1) h m).im (mul64 (tap (n + 1)) (histGet h n).im)⟩ :=
  congrArg₂ Cplx.mk (firSum_succ ..) (firSum_succ ..)

/-! The next history (R220) -/

theorem histPush_of_lt_two {n : Nat} (hn : n < 2) (m : Cplx) (h : List Cplx) : histPush n m h = h := if_pos hn

/-- The newest entry is the new input. -/
theorem histGet_histPush_zero {n : Nat} (hn : 2 ≤ n) (m : Cplx) (h : List Cplx) : histGet (histPush n m h) 0 = m := by
  rw [histGet_histPush, if_neg (by omega), if_pos rfl]

/-- The entries the FIR uses move on by one. -/
theorem histGet_histPush_moved {n j : Nat} (hj : 1 ≤ j) (hjn : j ≤ n - 2) (m : Cplx) (h : List Cplx) :
    histGet (histPush n m h) j = histGet h (j - 1) := by
  rw [histGet_histPush, if_neg (by omega), if_neg (by omega), if_pos (by omega)]

/-- The entries beyond those the FIR uses stay. -/
theorem histGet_histPush_beyond {n j : Nat} (hn : 2 ≤ n) (hj : n - 1 ≤ j) (m : Cplx) (h : List Cplx) :
    histGet (histPush n m h) j = histGet h j := by
  rw [histGet_histPush, if_neg (by omega), if_neg (by omega), if_neg (by omega)]

/-- Settles O43: the sum by its recurrence, in each of the two parts, and the next history by the place of the entry. -/
theorem firSumAndHistory : Obligations.FirSumAndHistory := by
  refine ⟨fun tap past m => ⟨firSum_one tap past m, fun n => firSum_succ tap past n m⟩,
    fun _ _ _ _ => ⟨rfl, rfl⟩,
    fun tap h m => ⟨congrArg₂ Cplx.mk (firSum_one ..) (firSum_one ..), fun k => firOut_succ tap k h m⟩,
    fun n m h => ⟨?one, ?more⟩⟩
  case one => exact fun hn => histPush_of_lt_two (by omega) m h
  case more =>
    exact fun hn => ⟨histGet_histPush_zero hn m h, fun _ hj hjn => histGet_histPush_moved hj hjn m h,
      fun _ hj => histGet_histPush_beyond hn hj m h⟩

end Sys2Proof.Machine
end

section
/-! PROOF. The decimation selector (O44): the word 0 is the one of value 0, and the counter goes round its group by
`decNext_toNat_eq_mod`. -/

namespace Sys2Proof.Machine

/-- An output is kept at the start of its group (R240). -/
theorem decKeep_eq_true_iff_toNat (cnt : U32) : decKeep cnt = true ↔ cnt.toNat = 0 :=
  (decKeep_eq_true_iff cnt).trans BitVec.toNat_inj.symm

/-- Settles O44: when an output is kept, and the next counter of its group. -/
theorem decimationSelector : Obligations.DecimationSelector :=
  fun cnt _ hlt => ⟨decKeep_eq_true_iff_toNat cnt, decNext_toNat_eq_mod hlt⟩

end Sys2Proof.Machine
end

section
/-! PROOF. DEM_ATAN2 (O40), the angle (O45) and a repeated sample at the demodulator (O46). The product of a value and
its own conjugate is real and not negative: its imaginary part is a difference of equal products, which is +0 (R252). -/

namespace Sys2Proof.Machine

/-! Values above and below ZERO -/

/-- The values above ZERO, infinity included, are those with a clear sign that are no zero and no NaN. -/
theorem lt64_zero64_iff (a : F64) :
    lt64 zero64 a = true ↔ isNan64 a = false ∧ sign64 a = false ∧ isZero64 a = false := by
  have hnan : isNan64 zero64 = false := by decide
  have hzero : order64 zero64 = 0 := by decide
  rw [lt64, hnan, hzero, order64_eq, ← Bool.not_eq_true (isZero64 a), isZero64_iff]
  cases sign64 a with
  | true => simp
  | false => simp [Nat.pos_iff_ne_zero]

/-- Negation takes the values below ZERO to those above it. -/
theorem lt64_zero64_neg64 (a : F64) : lt64 zero64 (neg64 a) = lt64 a zero64 := by
  have hzero : order64 zero64 = 0 := by decide
  simp only [lt64, isNan64_neg64, order64_neg64, hzero, Int.neg_pos, Bool.and_comm (!isNan64 zero64)]

/-! DEM_ATAN2 (R253) -/

/-- Property 3 on the positive real axis: the zero `y` itself. -/
theorem demAtan2_of_isZero64_of_pos {y x : F64} (hy : isZero64 y = true) (hx : lt64 zero64 x = true) :
    demAtan2 y x = y :=
  if_pos (Bool.and_eq_true_iff.2 ⟨hy, hx⟩)

/-- Property 3 on the imaginary axis: half a turn, with the sign of `y`. -/
theorem demAtan2_of_isZero64_right {y x : F64} (hx : isZero64 x = true) (hy : isZero64 y = false) :
    demAtan2 y x = if sign64 y then neg64 halfPi64 else halfPi64 := by
  rw [demAtan2, hx, hy]
  rfl

/-- Off the axes the free function is only asked at a `y` with a clear sign. -/
theorem demAtan2_of_not_zero {y x : F64} (hx : isZero64 x = false) (hy : isZero64 y = false) :
    demAtan2 y x =
      if sign64 y then neg64 (within64 pi64 (Config.demAtan2Free (neg64 y) x))
      else within64 pi64 (Config.demAtan2Free y x) := by
  rw [demAtan2, hx, hy]
  rfl

/-- Property 4 of DEM_ATAN2: odd in `y` other than a zero. -/
theorem demAtan2_neg64 {y x : F64} (hy : isZero64 y = false) : demAtan2 (neg64 y) x = neg64 (demAtan2 y x) := by
  have hny : isZero64 (neg64 y) = false := (isZero64_neg64 y).trans hy
  cases hx : isZero64 x with
  | true =>
    rw [demAtan2_of_isZero64_right hx hny, demAtan2_of_isZero64_right hx hy, sign64_neg64]
    cases sign64 y <;> simp
  | false =>
    rw [demAtan2_of_not_zero hx hny, demAtan2_of_not_zero hx hy, sign64_neg64]
    cases sign64 y <;> simp

theorem demAtan2_of_pos_of_isZero64 {y x : F64} (hx : isZero64 x = true) (hy : lt64 zero64 y = true) :
    demAtan2 y x = halfPi64 := by
  obtain ⟨-, hsign, hzero⟩ := (lt64_zero64_iff y).1 hy
  rw [demAtan2_of_isZero64_right hx hzero, hsign]
  rfl

/-- The negative imaginary axis is the positive one turned by property 4. -/
theorem demAtan2_of_neg_of_isZero64 {y x : F64} (hx : isZero64 x = true) (hy : lt64 y zero64 = true) :
    demAtan2 y x = neg64 halfPi64 := by
  have hpos : lt64 zero64 (neg64 y) = true := (lt64_zero64_neg64 y).trans hy
  obtain ⟨-, -, hzero⟩ := (lt64_zero64_iff _).1 hpos
  rw [← neg64_neg64 y, demAtan2_neg64 hzero, demAtan2_of_pos_of_isZero64 hx hpos]

/-- Settles O40: property 1, the four half-axes of property 3, and property 4. -/
theorem demAtan2Properties : Obligations.DemAtan2Properties := by
  have hzero : isZero64 zero64 = true := by decide
  have hnegZero : isZero64 (neg64 zero64) = true := (isZero64_neg64 _).trans hzero
  exact ⟨inPiRange_demAtan2,
    fun _ hx => ⟨demAtan2_of_isZero64_of_pos hzero hx, demAtan2_of_isZero64_of_pos hnegZero hx⟩,
    fun _ _ => demAtan2_of_pos_of_isZero64, fun _ _ => demAtan2_of_neg_of_isZero64, fun _ _ => demAtan2_neg64⟩

/-! The angle (R251) -/

/-- Settles O45: the three lines of R251, and the range of each. -/
theorem anglePrincipalValue : Obligations.AnglePrincipalValue := by
  refine fun p _ => ⟨?_, inPiRange_angle p⟩
  simp only [angle, Bool.and_eq_true]

/-- On the real axis from ZERO up the angle is ZERO. -/
theorem angle_of_nonneg_real {x : F64} (hx : isFinite64 x = true) (hs : sign64 x = false) :
    angle ⟨x, zero64⟩ = zero64 := by
  have hzero : isZero64 zero64 = true := by decide
  cases hx0 : isZero64 x with
  | true => exact if_pos (Bool.and_eq_true_iff.2 ⟨hx0, hzero⟩)
  | false =>
    obtain ⟨hnan, -⟩ := not_nan_of_finite hx
    have hpos : lt64 zero64 x = true := (lt64_zero64_iff x).2 ⟨hnan, hs, hx0⟩
    have hnotNeg : lt64 x zero64 = false := by
      rw [← lt64_zero64_neg64, Bool.eq_false_iff, ne_eq, lt64_zero64_iff, sign64_neg64, hs]
      simp
    rw [angle, if_neg (by simp [hx0]), if_neg (by simp [hnotNeg]), demAtan2_of_isZero64_of_pos hzero hpos]

/-! A product with its own conjugate (R252) -/

/-- A sum is finite only for finite operands. -/
theorem isFinite64_of_add64 {a b : F64} (h : isFinite64 (add64 a b) = true) :
    isFinite64 a = true ∧ isFinite64 b = true := by
  constructor <;> by_contra hbad
  · exact ne_true_of_eq_false (add64_not_finite (.inl (eq_false_of_ne_true hbad))) h
  · exact ne_true_of_eq_false (add64_not_finite (.inr (eq_false_of_ne_true hbad))) h

/-- A finite value taken from itself leaves +0, whatever its sign (R10). -/
theorem sub64_self {a : F64} (ha : isFinite64 a = true) : sub64 a a = zero64 := by
  rw [sub64, add64_finite ha ((isFinite64_neg64 a).trans ha), units64_neg64, if_pos (Int.add_right_neg _), sign64_neg64,
    Bool.and_assoc, Bool.and_not_self, Bool.and_false]
  rfl

theorem mul64_comm_of_finite {a b : F64} (ha : isFinite64 a = true) (hb : isFinite64 b = true) :
    mul64 a b = mul64 b a := by
  rw [mul64_finite ha hb, mul64_finite hb ha, Nat.mul_comm, bne_comm]

/-- A square has a clear sign. -/
theorem sign64_mul64_self {a : F64} (ha : isFinite64 a = true) : sign64 (mul64 a a) = false := by
  rw [mul64_finite ha ha, sign64_round64, bne_self_eq_false]

/-- A sum of finite values with clear signs has a clear sign. -/
theorem sign64_add64_of_nonneg {a b : F64} (ha : isFinite64 a = true) (hb : isFinite64 b = true)
    (hsa : sign64 a = false) (hsb : sign64 b = false) : sign64 (add64 a b) = false := by
  have hnonneg : 0 ≤ units64 a + units64 b := by
    rw [units64_signed, units64_signed, hsa, hsb]
    simp only [signed, Bool.false_eq_true, if_false]
    omega
  rw [add64_finite ha hb]
  split
  · rw [sign64_signedZero, hsb, Bool.and_false]
  · rw [roundInt64, sign64_round64]
    exact decide_eq_false (Int.not_lt.2 hnonneg)

/-- The product of a finite value and its own conjugate is real and not negative, unless it overflows. -/
theorem demProduct_self {f : Cplx} (hf : isFiniteC f = true) (hp : isFiniteC (demProduct f f) = true) :
    (demProduct f f).im = zero64 ∧ sign64 (demProduct f f).re = false := by
  obtain ⟨hre, him⟩ := (isFiniteC_iff f).1 hf
  obtain ⟨hpre, hpim⟩ := (isFiniteC_iff _).1 hp
  obtain ⟨hreSq, himSq⟩ := isFinite64_of_add64 hpre
  obtain ⟨hcross, -⟩ := isFinite64_of_add64 hpim
  constructor
  · rw [demProduct, mul64_comm_of_finite hre him, sub64_self hcross]
  · exact sign64_add64_of_nonneg hreSq himSq (sign64_mul64_self hre) (sign64_mul64_self him)

/-- What the demodulator gives for a sample with one before it: the angle of a finite product (R252). -/
theorem demStep_hasPrev {prev f : Cplx} {kept : Nat} {d : DemNext} (h : demStep prev true kept f = some d) :
    isFiniteC (demProduct f prev) = true ∧ d.out = some (angle (demProduct f prev)) := by
  rw [demStep, if_pos rfl] at h
  split at h
  · rename_i hp
    cases h
    exact ⟨hp, rfl⟩
  · cases h

/-- Settles O46: the product lies on the real axis from ZERO up, where the angle is ZERO. -/
theorem demodulatorRepeatedSample : Obligations.DemodulatorRepeatedSample := by
  intro f kept d hf hd
  obtain ⟨hp, hout⟩ := demStep_hasPrev hd
  obtain ⟨hre, -⟩ := (isFiniteC_iff _).1 hp
  obtain ⟨him, hs⟩ := demProduct_self hf hp
  have hreal : demProduct f f = ⟨(demProduct f f).re, zero64⟩ := congrArg (Cplx.mk _) him
  rw [hout, hreal, angle_of_nonneg_real hre hs]

end Sys2Proof.Machine
end

section
/-! PROOF. What enters FAULT (O50), read off the changes a transaction can make: the three that raise all end in the
fault procedure (R305). -/

namespace Sys2Proof.Machine

open Sys2Proof.Safety

/-- What the fault procedure leaves in `t` when a transaction on `s` raises (R300, R303, R305). -/
def FaultedFrom (s t : State) : Prop :=
  legalErrCause t.errCause = true ∧ t.queue = [] ∧ t.irqStatus = s.irqStatus ||| 0b10#2 ∧
    t.irqEnable = s.irqEnable ∧ t.taps = s.taps ∧ isSlverr t.result = false

/-- A command that raises is answered OKAY (R303). -/
theorem faultedFrom_raiseFault {cause detail : BitVec 4} {stage : BitVec 3}
    (hlegal : legalErrCause ⟨cause, detail, stage⟩ = true) (index : U64) (s : State) :
    FaultedFrom s (answerWrite (raiseFault cause detail stage index s)) :=
  ⟨hlegal, rfl, rfl, rfl, rfl, rfl⟩

/-- START clears nothing of what `FaultedFrom` says is kept (R152). -/
theorem FaultedFrom.of_startClear {s t : State} (h : FaultedFrom (startClear s) t) : FaultedFrom s t := h

theorem legalErrCause_of_checkConfig_error {s : State} {e : ConfigFailure} (h : checkConfig s = .error e) :
    legalErrCause ⟨1#4, e.detail, 0#3⟩ = true := by
  simp [legalErrCause, checkConfig_error h]

/-- A beat that takes STATE to FAULT raises NumericAnomaly (R174, R305). -/
theorem faultedFrom_acceptBeat {z : Cplx} {s : State} (ht : (acceptBeat z s).runState = .fault)
    (hs : s.runState ≠ .fault) : FaultedFrom s (acceptBeat z s) := by
  obtain ⟨htaps, -, -, henable, -, -, -, -, -, -, -, hresult, ⟨hkeep, -⟩ | ⟨-, hirq, hqueue, -, hlegal⟩⟩ :=
    acceptBeat_frame z s
  · exact absurd (hkeep.symm.trans ht) hs
  · exact ⟨hlegal, hqueue, hirq, henable, htaps, hresult ▸ rfl⟩

/-- R300, R303: a transaction enters FAULT as a START, an EOS or an input beat, by the fault procedure. -/
theorem Change.fault_entry {i : Instr} {s t : State} (c : Change i s t) (ht : t.runState = .fault)
    (hs : s.runState ≠ .fault) :
    (runsCommand .start i = true ∨ runsCommand .eos i = true ∨ isInBeat i = true) ∧ FaultedFrom s t := by
  cases c with
  | startFailed hi hr e hc h =>
    subst h
    exact ⟨.inl hi, (faultedFrom_raiseFault (legalErrCause_of_checkConfig_error hc) e.index _).of_startClear⟩
  | eosFailed hi hr hk h =>
    subst h
    exact ⟨.inr (.inl hi), faultedFrom_raiseFault rfl _ s⟩
  | beat x q hi hr hn h =>
    subst hi h
    exact ⟨.inr (.inr rfl), faultedFrom_acceptBeat ht hs⟩
  | started hi hr inc hc h => subst h; cases ht
  | eosDone hi hr hk h => subst h; cases ht
  | aborted hi h => subst h; cases ht
  | _ => subst_vars; exact absurd ht hs

/-- Settles O50: reset leaves IDLE, so what enters FAULT is a transaction. -/
theorem faultEntry : Obligations.FaultEntry := by
  intro e s t h ht hs
  rcases performEvent_cases h with ⟨-, rfl⟩ | ⟨x, rfl, c⟩
  · cases ht
  · exact c.fault_entry ht hs

end Sys2Proof.Machine
end

section
/-! PROOF. The values reset leaves (O55). -/

namespace Sys2Proof.Machine

/-- The empty list is the history of CZERO entries (R48). -/
theorem histGet_nil (j : Nat) : histGet [] j = czero := List.getD_nil

/-- With nothing pending the irq output is low (R53). -/
theorem irqLevel_of_irqStatus_eq_zero {s : State} (h : s.irqStatus = 0#2) : irqLevel s = false := by
  simp [irqLevel, h]

/-- Settles O55: all but HIST and the irq level are the fields of `State.resetOf`, as R330 tabulates them. -/
theorem resetLeaves : Obligations.ResetLeaves := by
  refine ⟨fun _ => rfl, rfl, fun b => ?_⟩
  have hirq : irqLevel (State.resetOf b) = false := irqLevel_of_irqStatus_eq_zero rfl
  exact ⟨rfl, rfl, rfl, rfl, rfl, rfl, rfl, rfl, rfl, rfl, rfl, rfl, rfl, rfl, rfl, rfl, rfl, rfl, rfl, rfl, rfl, rfl,
    rfl, rfl, rfl, rfl, histGet_nil, rfl, rfl, rfl, rfl, rfl, hirq, rfl⟩

end Sys2Proof.Machine
end
